-- ==== Sys2Proof/Word.lean ====
section
/-! DEFINITION. The word types of the SFE and the plainest arithmetic on them (00_scope.md R13, R14). -/

namespace Sys2Proof

/-- 8 bits: a wire byte, a buffer byte (R13; DATABITS of R11). -/
abbrev Byte := BitVec 8

/-- 16 bits: a CRC register, a counter (CNTW of R11), a length. -/
abbrev Half := BitVec 16

/-- 32 bits: a register, a bus datum, a command word (REGW of R11). -/
abbrev Word := BitVec 32

/-- 12 bits: a byte offset in the 4 KiB register window (R70). -/
abbrev Offset := BitVec 12

end Sys2Proof
end

