-- ==== Sys2Proof/Config.lean ====
section
/-! DEFINITION. The implementation parameters of the SFE (00_scope.md R11, decision D10). -/

namespace Sys2Proof.Config

/-- Register and bus data width in bits (`REGW`): the width of `Word`. -/
def regW : Nat := 32

/-- Data bits per character, fixed (`DATABITS`): the width of `Byte`. -/
def dataBits : Nat := 8

/-- Width of each statistics counter in bits (`CNTW`): the width of `Half`. -/
def cntW : Nat := 16

/-- The unit of the RXTO register in character times: one (`RXTO_UNIT`). -/
def rxtoUnit : Nat := 1

/-- Bytes of the register window (`WIN`). -/
def winSize : Nat := 4096

/-- Bytes in TXBUF and in RXBUF, and the largest payload (`BUFSZ`). -/
def bufSize : Nat := 256

/-- Entries in the receive character FIFO (`RXFIFO_DEPTH`). -/
def rxfifoDepth : Nat := 64

/-- Raw characters the transmit queue holds (`TXFIFO_DEPTH`). -/
def txfifoDepth : Nat := 16

/-- Records in the out-of-band FIFO (`OOB_DEPTH`). -/
def oobDepth : Nat := 8

/-- Upper bound on the wire bytes of one frame (`MAXWIRE`, R11, R112). -/
def maxWire : Nat := 526

/-- The longest unstuffed candidate (R48). -/
def maxCandidate : Nat := 263

/-- The constant the ID register reads (R21). -/
def idValue : Word := 0x53464501#32

/-- Window offset of TXBUF[0] (R44). -/
def txbufBase : Nat := 0x100

/-- Window offset of RXBUF[0] (R44). -/
def rxbufBase : Nat := 0x200

/-- `T_REF`, the period of the baud reference clock: OPEN (R11, entry I16); no rule depends on it.
Free value, notes/assumptions/13.md. -/
opaque tRef : Nat

/-- `SFE_BASE`, the window's base in the host's physical address space: OPEN (R70, entry I16).
Free value, notes/assumptions/13.md. -/
opaque sfeBase : Nat

/-- The host address of a window offset (R70). -/
def hostAddress (off : Offset) : Nat := sfeBase + off.toNat

end Sys2Proof.Config
end

