-- ==== Sys2Proof/Syntax.lean ====
section
/-! DEFINITION. The instructions of the SFE: command words and host bus accesses (30_encoding.md R90 to R94). -/

namespace Sys2Proof

/-- Direction of a bus access (R94). -/
inductive Dir where
  | read
  | write
  deriving DecidableEq, Repr

/-- Size of a bus access in bytes: 1, 2 or 4 (R16). -/
inductive Size where
  | b1
  | b2
  | b4
  deriving DecidableEq, Repr

/-- The number of bytes of a size. -/
def Size.bytes : Size → Nat
  | .b1 => 1
  | .b2 => 2
  | .b4 => 4

/-- The 4-byte slots of the register region 0x000 to 0x0FF, in the order of R71.
`reserved k` is the reserved slot at offset 0x058 + 4k. -/
inductive Reg where
  | id | ctrl | line | prof0 | prof1 | prof2 | crc0 | crc1
  | cmd | status | ien | txchar | rxchar | rxinfo | oob | chkacc
  | cntok | cntchk | cntfrm | cntdisc | fifostat | rxto
  | reserved (k : Fin 42)
  deriving DecidableEq, Repr

/-- A host bus access as the tuple of R94: direction, offset, size in bytes, write data. -/
structure BusAccess where
  dir : Dir
  off : Offset
  size : Nat
  wdata : Word
  deriving DecidableEq, Repr

/-- What the host sends: a command word (a 4-byte write of it to CMD, R90) or any bus access (R94). -/
inductive HostWord where
  | cmd (word : Word)
  | bus (acc : BusAccess)
  deriving DecidableEq, Repr

/-- Why a host word is no instruction of the SFE. -/
inductive DecodeError where
  /-- An access size other than 1, 2 or 4 bytes, which no `MemRead` or `MemWrite` has (R16). -/
  | badSize (size : Nat)
  deriving DecidableEq, Repr

/-- The instructions: one constructor per row of spec/opcode_table.json.
A register access carries the two low offset bits `lo` and the size, which the row's mask 0xFFC leaves open
and which its meaning checks (R72). -/
inductive Instr where
  | nop
  | srst
  | txframe (addr : Byte) (n : Half)
  | txabort
  | rxrelease
  | resync
  | rxflush
  | chkinit
  | chkfeed (d : Byte)
  | chkfeedbuf (start : Byte) (n : Half)
  | undefined (opc : Byte)
  | rdReg (r : Reg) (lo : BitVec 2) (size : Size)
  | wrCtrl (lo : BitVec 2) (size : Size) (wdata : Word)
  | wrLine (lo : BitVec 2) (size : Size) (wdata : Word)
  | wrProf0 (lo : BitVec 2) (size : Size) (wdata : Word)
  | wrProf1 (lo : BitVec 2) (size : Size) (wdata : Word)
  | wrProf2 (lo : BitVec 2) (size : Size) (wdata : Word)
  | wrCrc0 (lo : BitVec 2) (size : Size) (wdata : Word)
  | wrCrc1 (lo : BitVec 2) (size : Size) (wdata : Word)
  | wrCmd (lo : BitVec 2) (size : Size) (wdata : Word)
  | wrStatus (lo : BitVec 2) (size : Size) (wdata : Word)
  | wrIen (lo : BitVec 2) (size : Size) (wdata : Word)
  | wrTxchar (lo : BitVec 2) (size : Size) (wdata : Word)
  | rdRxchar (lo : BitVec 2) (size : Size)
  | rdOob (lo : BitVec 2) (size : Size)
  | wrChkacc (lo : BitVec 2) (size : Size) (wdata : Word)
  | wrCntok (lo : BitVec 2) (size : Size) (wdata : Word)
  | wrCntchk (lo : BitVec 2) (size : Size) (wdata : Word)
  | wrCntfrm (lo : BitVec 2) (size : Size) (wdata : Word)
  | wrCntdisc (lo : BitVec 2) (size : Size) (wdata : Word)
  | wrRxto (lo : BitVec 2) (size : Size) (wdata : Word)
  | wrRo (r : Reg) (lo : BitVec 2) (size : Size) (wdata : Word)
  | wrReserved (off : Offset) (size : Size) (wdata : Word)
  | rdReservedHigh (off : Offset) (size : Size)
  | rdTxbuf (i : Byte) (size : Size)
  | wrTxbuf (i : Byte) (size : Size) (wdata : Word)
  | rdRxbuf (i : Byte) (size : Size)
  | wrRxbuf (i : Byte) (size : Size) (wdata : Word)
  deriving DecidableEq, Repr

end Sys2Proof
end

