-- ==== Sys2Proof/WellFormed.lean ====
section
/-! DEFINITION. Which instruction terms stand for an access or a command of the spec (R71, R91, R94). -/

namespace Sys2Proof

/-- The mask of the data bits an access of this size carries. -/
def Size.mask : Size → Word
  | .b1 => 0x000000FF#32
  | .b2 => 0x0000FFFF#32
  | .b4 => 0xFFFFFFFF#32

/-- The write data has no bit above `8 * size` (opcode table, field wdata `size*8-1:0`). -/
def Size.fits (size : Size) (wdata : Word) : Bool := wdata &&& size.mask == wdata

/-- The registers of the row RD.REG: all but RXCHAR and OOB, whose reads pop (R120, R78). -/
def Reg.plainRead : Reg → Bool
  | .rxchar => false
  | .oob => false
  | _ => true

/-- The registers of the row WR.RO (R77). -/
def Reg.readOnly : Reg → Bool
  | .id => true
  | .rxchar => true
  | .rxinfo => true
  | .oob => true
  | .fifostat => true
  | _ => false

/-- The reserved part of the register region, 0x058 to 0x0FF (R71, R76). -/
def Offset.reservedLow (off : Offset) : Bool := 0x058#12 ≤ off && off < 0x100#12

/-- The reserved region 0x300 to 0xFFF (R71, R76). -/
def Offset.reservedHigh (off : Offset) : Bool := 0x300#12 ≤ off

/-- Well-formed instructions. -/
def Instr.wellFormed : Instr → Bool
  | .nop => true
  | .srst => true
  | .txframe _ _ => true
  | .txabort => true
  | .rxrelease => true
  | .resync => true
  | .rxflush => true
  | .chkinit => true
  | .chkfeed _ => true
  | .chkfeedbuf _ _ => true
  | .undefined opc => 0x0A#8 ≤ opc
  | .rdReg r _ _ => r.plainRead
  | .wrCtrl _ size d => size.fits d
  | .wrLine _ size d => size.fits d
  | .wrProf0 _ size d => size.fits d
  | .wrProf1 _ size d => size.fits d
  | .wrProf2 _ size d => size.fits d
  | .wrCrc0 _ size d => size.fits d
  | .wrCrc1 _ size d => size.fits d
  | .wrCmd _ size d => size.fits d
  | .wrStatus _ size d => size.fits d
  | .wrIen _ size d => size.fits d
  | .wrTxchar _ size d => size.fits d
  | .rdRxchar _ _ => true
  | .rdOob _ _ => true
  | .wrChkacc _ size d => size.fits d
  | .wrCntok _ size d => size.fits d
  | .wrCntchk _ size d => size.fits d
  | .wrCntfrm _ size d => size.fits d
  | .wrCntdisc _ size d => size.fits d
  | .wrRxto _ size d => size.fits d
  | .wrRo r _ size d => r.readOnly && size.fits d
  | .wrReserved off size d => (Offset.reservedLow off || Offset.reservedHigh off) && size.fits d
  | .rdReservedHigh off _ => Offset.reservedHigh off
  | .rdTxbuf _ _ => true
  | .wrTxbuf _ size d => size.fits d
  | .rdRxbuf _ _ => true
  | .wrRxbuf _ size d => size.fits d

end Sys2Proof
end

