-- ==== Sys2Proof/Decode.lean ====
section
/-! DEFINITION. Decoder and encoder of the SFE's two instruction formats (30_encoding.md R90 to R94). -/

namespace Sys2Proof

/-- The register slot at word index `i` of the register region, offset `4 * i` (R71). -/
def Reg.ofIndex (i : Nat) : Reg :=
  match i with
  | 0 => .id
  | 1 => .ctrl
  | 2 => .line
  | 3 => .prof0
  | 4 => .prof1
  | 5 => .prof2
  | 6 => .crc0
  | 7 => .crc1
  | 8 => .cmd
  | 9 => .status
  | 10 => .ien
  | 11 => .txchar
  | 12 => .rxchar
  | 13 => .rxinfo
  | 14 => .oob
  | 15 => .chkacc
  | 16 => .cntok
  | 17 => .cntchk
  | 18 => .cntfrm
  | 19 => .cntdisc
  | 20 => .fifostat
  | 21 => .rxto
  | k + 22 => .reserved (Fin.ofNat 42 k)

/-- The word index of a register slot: its offset divided by 4 (R71). -/
def Reg.index : Reg → Nat
  | .id => 0
  | .ctrl => 1
  | .line => 2
  | .prof0 => 3
  | .prof1 => 4
  | .prof2 => 5
  | .crc0 => 6
  | .crc1 => 7
  | .cmd => 8
  | .status => 9
  | .ien => 10
  | .txchar => 11
  | .rxchar => 12
  | .rxinfo => 13
  | .oob => 14
  | .chkacc => 15
  | .cntok => 16
  | .cntchk => 17
  | .cntfrm => 18
  | .cntdisc => 19
  | .fifostat => 20
  | .rxto => 21
  | .reserved k => k.val + 22

/-- The window offset of byte `lo` of a register slot. -/
def Reg.offset (r : Reg) (lo : BitVec 2) : Offset := BitVec.ofNat 10 r.index ++ lo

/-- The size of an access of `n` bytes (R16). -/
def Size.ofBytes (n : Nat) : Except DecodeError Size :=
  match n with
  | 1 => .ok .b1
  | 2 => .ok .b2
  | 4 => .ok .b4
  | n => .error (.badSize n)

/-- The command a command word selects by its bits 7:0, with its arguments (R90, R91, R150).
Every word selects exactly one (R93); bits a command does not read are ignored (R92). -/
def decodeCmd (w : Word) : Instr :=
  let arg8 : Byte := w.extractLsb' 8 8
  let arg16 : Half := w.extractLsb' 16 16
  match (w.extractLsb' 0 8).toNat with
  | 0x00 => .nop
  | 0x01 => .srst
  | 0x02 => .txframe arg8 arg16
  | 0x03 => .txabort
  | 0x04 => .rxrelease
  | 0x05 => .resync
  | 0x06 => .rxflush
  | 0x07 => .chkinit
  | 0x08 => .chkfeed arg8
  | 0x09 => .chkfeedbuf arg8 arg16
  | _ => .undefined (w.extractLsb' 0 8)

/-- The instruction of a read in the register region (R71, R120, R128, R129). -/
def decodeRegRead (r : Reg) (lo : BitVec 2) (size : Size) : Instr :=
  match r with
  | .rxchar => .rdRxchar lo size
  | .oob => .rdOob lo size
  | r => .rdReg r lo size

/-- The instruction of a write in the register region (R71, R77, R121 to R131, R134).
The data is already cut to the access's size. -/
def decodeRegWrite (off : Offset) (r : Reg) (lo : BitVec 2) (size : Size) (d : Word) : Instr :=
  match r with
  | .id => .wrRo .id lo size d
  | .ctrl => .wrCtrl lo size d
  | .line => .wrLine lo size d
  | .prof0 => .wrProf0 lo size d
  | .prof1 => .wrProf1 lo size d
  | .prof2 => .wrProf2 lo size d
  | .crc0 => .wrCrc0 lo size d
  | .crc1 => .wrCrc1 lo size d
  | .cmd => .wrCmd lo size d
  | .status => .wrStatus lo size d
  | .ien => .wrIen lo size d
  | .txchar => .wrTxchar lo size d
  | .rxchar => .wrRo .rxchar lo size d
  | .rxinfo => .wrRo .rxinfo lo size d
  | .oob => .wrRo .oob lo size d
  | .chkacc => .wrChkacc lo size d
  | .cntok => .wrCntok lo size d
  | .cntchk => .wrCntchk lo size d
  | .cntfrm => .wrCntfrm lo size d
  | .cntdisc => .wrCntdisc lo size d
  | .fifostat => .wrRo .fifostat lo size d
  | .rxto => .wrRxto lo size d
  | .reserved _ => .wrReserved off size d

/-- The instruction of a bus access whose size is legal: the region of the offset decides the row (R71, R94). -/
def decodeAccess (dir : Dir) (off : Offset) (size : Size) (wdata : Word) : Instr :=
  let lo : BitVec 2 := off.extractLsb' 0 2
  let r := Reg.ofIndex (off.extractLsb' 2 10).toNat
  let i : Byte := off.extractLsb' 0 8
  let d := wdata &&& size.mask
  match dir, (off.extractLsb' 8 4).toNat with
  | .read, 0 => decodeRegRead r lo size
  | .write, 0 => decodeRegWrite off r lo size d
  | .read, 1 => .rdTxbuf i size
  | .write, 1 => .wrTxbuf i size d
  | .read, 2 => .rdRxbuf i size
  | .write, 2 => .wrRxbuf i size d
  | .read, _ => .rdReservedHigh off size
  | .write, _ => .wrReserved off size d

/-- The decoder: total on every host word, refusing by name an access size the bus does not have. -/
def decode (h : HostWord) : Except DecodeError Instr :=
  match h with
  | .cmd w => .ok (decodeCmd w)
  | .bus a =>
    match Size.ofBytes a.size with
    | .ok size => .ok (decodeAccess a.dir a.off size a.wdata)
    | .error e => .error e

/-- A command word from its fields (R90). -/
def cmdWord (opc arg8 : Byte) (arg16 : Half) : HostWord := .cmd (arg16 ++ arg8 ++ opc)

/-- A write to a register slot as a bus access. -/
def regWrite (r : Reg) (lo : BitVec 2) (size : Size) (d : Word) : HostWord :=
  .bus { dir := .write, off := r.offset lo, size := size.bytes, wdata := d }

/-- A read of a register slot as a bus access; its write data is 0. -/
def regRead (r : Reg) (lo : BitVec 2) (size : Size) : HostWord :=
  .bus { dir := .read, off := r.offset lo, size := size.bytes, wdata := 0#32 }

/-- The encoder: the host word of a well-formed instruction (R90, R91, R94). Ignored argument bits are 0 (R92). -/
def encode : Instr → HostWord
  | .nop => cmdWord 0x00#8 0#8 0#16
  | .srst => cmdWord 0x01#8 0#8 0#16
  | .txframe a n => cmdWord 0x02#8 a n
  | .txabort => cmdWord 0x03#8 0#8 0#16
  | .rxrelease => cmdWord 0x04#8 0#8 0#16
  | .resync => cmdWord 0x05#8 0#8 0#16
  | .rxflush => cmdWord 0x06#8 0#8 0#16
  | .chkinit => cmdWord 0x07#8 0#8 0#16
  | .chkfeed d => cmdWord 0x08#8 d 0#16
  | .chkfeedbuf s n => cmdWord 0x09#8 s n
  | .undefined opc => cmdWord opc 0#8 0#16
  | .rdReg r lo size => regRead r lo size
  | .wrCtrl lo size d => regWrite .ctrl lo size d
  | .wrLine lo size d => regWrite .line lo size d
  | .wrProf0 lo size d => regWrite .prof0 lo size d
  | .wrProf1 lo size d => regWrite .prof1 lo size d
  | .wrProf2 lo size d => regWrite .prof2 lo size d
  | .wrCrc0 lo size d => regWrite .crc0 lo size d
  | .wrCrc1 lo size d => regWrite .crc1 lo size d
  | .wrCmd lo size d => regWrite .cmd lo size d
  | .wrStatus lo size d => regWrite .status lo size d
  | .wrIen lo size d => regWrite .ien lo size d
  | .wrTxchar lo size d => regWrite .txchar lo size d
  | .rdRxchar lo size => regRead .rxchar lo size
  | .rdOob lo size => regRead .oob lo size
  | .wrChkacc lo size d => regWrite .chkacc lo size d
  | .wrCntok lo size d => regWrite .cntok lo size d
  | .wrCntchk lo size d => regWrite .cntchk lo size d
  | .wrCntfrm lo size d => regWrite .cntfrm lo size d
  | .wrCntdisc lo size d => regWrite .cntdisc lo size d
  | .wrRxto lo size d => regWrite .rxto lo size d
  | .wrRo r lo size d => regWrite r lo size d
  | .wrReserved off size d => .bus { dir := .write, off := off, size := size.bytes, wdata := d }
  | .rdReservedHigh off size => .bus { dir := .read, off := off, size := size.bytes, wdata := 0#32 }
  | .rdTxbuf i size => .bus { dir := .read, off := 0x1#4 ++ i, size := size.bytes, wdata := 0#32 }
  | .wrTxbuf i size d => .bus { dir := .write, off := 0x1#4 ++ i, size := size.bytes, wdata := d }
  | .rdRxbuf i size => .bus { dir := .read, off := 0x2#4 ++ i, size := size.bytes, wdata := 0#32 }
  | .wrRxbuf i size d => .bus { dir := .write, off := 0x2#4 ++ i, size := size.bytes, wdata := d }

/-- The host word that stands for a table word: `nbits` bits of `w`, numbered as spec/opcode_table.json numbers them.
A row of at most 8 bits is an OPC and a row of more than 16 bits is a whole command word; a row of 9 to 16 bits is a
window offset. The table gives a bus row no direction, size or data: the access is 4 bytes of data 0, a read at
RXCHAR and OOB (the only rows with those offsets are reads) and a write elsewhere (notes/assumptions/6.md). -/
def tableWord (nbits w : Nat) : HostWord :=
  if nbits ≤ 8 || 16 < nbits then .cmd (BitVec.ofNat 32 w)
  else
    let off : Offset := BitVec.ofNat 12 w
    let pops := off.extractLsb' 2 10 == 12#10 || off.extractLsb' 2 10 == 14#10
    .bus { dir := if pops then .read else .write, off := off, size := 4, wdata := 0#32 }

/-- What the decoder reads from a table word. -/
def decodeTableWord (nbits w : Nat) : Option Instr :=
  match decode (tableWord nbits w) with
  | .ok i => some i
  | .error _ => none

end Sys2Proof
end

