-- ==== Sys2Proof/Machine/State.lean ====
section
/-! DEFINITION. The state of the SFE as plain data, why a step can stop, and the state after reset
(10_state.md R20 to R61). -/

namespace Sys2Proof.Machine

/-- A received wire byte with its parity error, stop-bit error, break and gap flags (R45). -/
structure Entry where
  b : Byte
  pe : Bool
  se : Bool
  brk : Bool
  gap : Bool
  deriving DecidableEq, Repr

/-- The decoder state FSTATE (R49). -/
inductive FState where
  | hunt
  | sync
  | addr
  | len
  | pay
  | trl
  | chk
  | hold
  deriving DecidableEq, Repr

/-- The candidate record (R51): CAND, C_ADDR, C_LEN, C_PAY, C_CHK and NEXP. -/
structure Candidate where
  ents : List Entry
  addr : Byte
  len : List Byte
  pay : List Byte
  chk : List Byte
  nexp : Option Nat
  deriving DecidableEq, Repr

/-- The cleared candidate (R51). -/
def Candidate.cleared : Candidate :=
  { ents := [], addr := 0#8, len := [], pay := [], chk := [], nexp := none }

/-- A record of the out-of-band FIFO (R52). -/
structure OobRec where
  byte : Byte
  escd : Bool
  deriving DecidableEq, Repr

/-- The contents of TXBUF and RXBUF by window offset (R44, R71). An unlisted offset holds no value (R61, R292). -/
abbrev Memory := List Host.Cell

/-- The answer the bus gave to the host's latest access (R16, R17, R74); the model's own field,
notes/assumptions/5.md. -/
inductive BusResp where
  /-- No access since reset. -/
  | none
  /-- A write completed. -/
  | done
  /-- A read completed and returned this value. -/
  | data (v : Word)
  /-- The access ended in BusError at this offset. -/
  | error (off : Offset)
  deriving DecidableEq, Repr

/-- One move of one agent (R7), or of the reset input (R290). -/
inductive Move where
  /-- HOST: one bus access or command word. -/
  | host (h : HostWord)
  /-- LINE: a character arrives on the external RXD (R211, R212). -/
  | line (e : Entry)
  /-- TXU: LOAD (R198). -/
  | load
  /-- TXU: EMIT (R199). -/
  | emit
  /-- FRX: one decoder step (R222). -/
  | frx
  /-- RXT: the receive timeout (R245). -/
  | rxt
  /-- The reset input is asserted (R290). -/
  | assertReset
  /-- The reset input is released (R290). -/
  | releaseReset
  deriving DecidableEq, Repr

/-- The state of the SFE. Every field but the last three is the spec's (10_state.md sections 2 and 3). -/
structure State where
  /-- CTRL (R22). -/
  ctrl : Word
  /-- LINE (R23). -/
  line : Word
  /-- PROF0 (R24). -/
  prof0 : Word
  /-- PROF1 (R25). -/
  prof1 : Word
  /-- PROF2 (R26). -/
  prof2 : Word
  /-- CRC0 (R27). -/
  crc0 : Word
  /-- CRC1 (R28). -/
  crc1 : Word
  /-- STATUS bits 13:0, the sticky event bits (R32). -/
  sticky : BitVec 14
  /-- STATUS.FRMCAUSE (R34). -/
  frmCause : BitVec 4
  /-- IEN (R35). -/
  ien : Word
  /-- RXINFO (R38). -/
  rxinfo : Word
  /-- RXTO (R43). -/
  rxto : Word
  /-- ACC, shown as CHKACC (R40, R56). -/
  acc : Half
  /-- CNTOK (R41). -/
  cntOk : Half
  /-- CNTCHK (R41). -/
  cntChk : Half
  /-- CNTFRM (R41). -/
  cntFrm : Half
  /-- CNTDISC (R41). -/
  cntDisc : Half
  /-- TXBUF and RXBUF (R44). -/
  mem : Memory
  /-- RXFIFO (R46). -/
  rxfifo : List Entry
  /-- GAPPEND (R47). -/
  gapPend : Bool
  /-- REPLAY (R48). -/
  replay : List Entry
  /-- FSTATE (R49). -/
  fstate : FState
  /-- ESCP (R50). -/
  escp : Bool
  /-- The candidate record (R51). -/
  cand : Candidate
  /-- OOBQ (R52). -/
  oobq : List OobRec
  /-- TXQ (R53). -/
  txq : List Byte
  /-- TXSH (R54). -/
  txsh : Option Byte
  /-- TXFR (R55). -/
  txfr : Bool
  /-- LINEOUT (R57). -/
  lineOut : List Byte
  /-- The level of the reset input: true while asserted (R290); the model's own field, notes/assumptions/12.md. -/
  resetIn : Bool
  /-- The bus's answer to the latest host access; the model's own field, notes/assumptions/5.md. -/
  resp : BusResp
  /-- The moves to come, oldest first: the interleaving of the agents as data (R8); once it has run out the internal agents
  go on by themselves (R9). The model's own field, notes/assumptions/1.md, 3.md. -/
  sched : List Move
  deriving DecidableEq, Repr

/-- Why the machine stops. -/
inductive Fault where
  /-- A byte of TXBUF or RXBUF that nothing has written since reset is read: by a host read, TXFRAME or CHKFEEDBUF
  (R292, entry I6). Safe: the spec gives the byte no value and asks for this fault. -/
  | unwrittenByte (off : Nat)
  /-- A host access while the reset input is asserted (R290, entry I20 (c)). Safe: the spec gives the window no
  response then. -/
  | accessInReset
  deriving DecidableEq, Repr

/-- Why an instruction has no meaning. -/
inductive Refusal where
  /-- An instruction that has no meaning yet, raised by exec's arm alone. Safe: nothing is claimed of it. -/
  | notModelled (mnemonic : String)
  /-- The host word is no access of the window (R16), raised by step. Safe: no bus delivers such an access. -/
  | noSuchAccess (why : DecodeError)
  deriving DecidableEq, Repr

/-- The machine right after hardware reset (R61, R290). -/
def State.reset : State :=
  { ctrl := 0x00000000#32
    line := 0x00000000#32
    prof0 := 0x00000024#32
    prof1 := 0x03100002#32
    prof2 := 0x00150000#32
    crc0 := 0x00001021#32
    crc1 := 0x00030000#32
    sticky := 0#14
    frmCause := 0#4
    ien := 0x00000000#32
    rxinfo := 0x00000000#32
    rxto := 0x00000000#32
    acc := 0x0000#16
    cntOk := 0#16
    cntChk := 0#16
    cntFrm := 0#16
    cntDisc := 0#16
    mem := []
    rxfifo := []
    gapPend := false
    replay := []
    fstate := .hunt
    escp := false
    cand := Candidate.cleared
    oobq := []
    txq := []
    txsh := none
    txfr := false
    lineOut := []
    resetIn := false
    resp := .none
    sched := [] }

end Sys2Proof.Machine
end

