-- ==== Sys2Proof/Machine/Ops.lean ====
section
/-! DEFINITION. The named operations over memory, registers and events: every read and write of state goes through these.
Taking an exception (BusError, an event) and returning from an event stand here, once. -/

namespace Sys2Proof.Machine

/-! ## Memory: TXBUF and RXBUF (10_state.md R44) -/

/-- Canonical form: offsets strictly rising. An unlisted offset holds no value, so no entry can repeat a default. -/
def Memory.wf : Memory → Bool
  | [] => true
  | [_] => true
  | a :: b :: rest => a.1 < b.1 && Memory.wf (b :: rest)

/-- The byte at an offset, or none where nothing has been written (R292). -/
def Memory.read : Memory → Nat → Option Byte
  | [], _ => none
  | c :: rest, a => if c.1 == a then some c.2 else Memory.read rest a

/-- Store one byte, keeping the canonical form. -/
def Memory.write : Memory → Nat → Byte → Memory
  | [], a, v => [(a, v)]
  | c :: rest, a, v =>
    if a < c.1 then (a, v) :: c :: rest
    else if a == c.1 then (a, v) :: rest
    else c :: Memory.write rest a v

/-- Store bytes at rising offsets. -/
def Memory.writeBytes : Memory → Nat → List Byte → Memory
  | m, _, [] => m
  | m, a, v :: rest => Memory.writeBytes (m.write a v) (a + 1) rest

/-- Read `n` bytes from an offset on, or the first offset that holds no value (R292). -/
def Memory.readBytes : Memory → Nat → Nat → Except Nat (List Byte)
  | _, _, 0 => .ok []
  | m, a, n + 1 =>
    match m.read a with
    | none => .error a
    | some v =>
      match Memory.readBytes m (a + 1) n with
      | .ok rest => .ok (v :: rest)
      | .error e => .error e

/-- The little-endian value of bytes, lowest offset in bits 7:0 (R75). -/
def leValue : List Byte → Word
  | [] => 0#32
  | v :: rest => (leValue rest <<< 8) ||| v.setWidth 32

/-- The first `n` little-endian bytes of a datum (R75). -/
def leBytes : Nat → Word → List Byte
  | 0, _ => []
  | n + 1, d => d.setWidth 8 :: leBytes n (d >>> 8)

/-! ## Fields of the registers (10_state.md R22 to R28, R43) -/

/-- CTRL.EN. -/
def State.en (s : State) : Bool := s.ctrl.getLsbD 0

/-- CTRL.TXEN. -/
def State.txen (s : State) : Bool := s.ctrl.getLsbD 1

/-- CTRL.RXEN. -/
def State.rxen (s : State) : Bool := s.ctrl.getLsbD 2

/-- CTRL.FRMEN. -/
def State.frmen (s : State) : Bool := s.ctrl.getLsbD 3

/-- CTRL.LOOP. -/
def State.loop (s : State) : Bool := s.ctrl.getLsbD 4

/-- CTRL.OOBEN. -/
def State.ooben (s : State) : Bool := s.ctrl.getLsbD 5

/-- CTRL.AUTONAK. -/
def State.autonak (s : State) : Bool := s.ctrl.getLsbD 6

/-- LINE.BAUDDIV. -/
def State.baudDiv (s : State) : Half := s.line.extractLsb' 0 16

/-- LINE.PARITY. -/
def State.parity (s : State) : BitVec 2 := s.line.extractLsb' 16 2

/-- LINE.STOP2. -/
def State.stop2 (s : State) : Bool := s.line.getLsbD 18

/-- PROF0.NSYNC2. -/
def State.nsync2 (s : State) : Bool := s.prof0.getLsbD 0

/-- PROF0.HASADDR. -/
def State.hasAddr (s : State) : Bool := s.prof0.getLsbD 1

/-- PROF0.LENW, the width of the length field in bytes. -/
def State.lenw (s : State) : Nat := (s.prof0.extractLsb' 2 2).toNat

/-- PROF0.LENBE. -/
def State.lenbe (s : State) : Bool := s.prof0.getLsbD 4

/-- PROF0.CHKALG: true is CRC-16. -/
def State.crcAlg (s : State) : Bool := s.prof0.getLsbD 5

/-- PROF0.CHKBE. -/
def State.chkbe (s : State) : Bool := s.prof0.getLsbD 6

/-- PROF0.CHKFROM: true starts the checksum range after the sync sequence. -/
def State.chkFrom (s : State) : Bool := s.prof0.getLsbD 7

/-- PROF0.STUFF. -/
def State.stuffed (s : State) : Bool := s.prof0.getLsbD 8

/-- PROF0.ENDMK. -/
def State.endmk (s : State) : Bool := s.prof0.getLsbD 9

/-- PROF0.CHKTRL. -/
def State.chkTrl (s : State) : Bool := s.prof0.getLsbD 10

/-- PROF1.SYNC0. -/
def State.sync0 (s : State) : Byte := s.prof1.extractLsb' 0 8

/-- PROF1.SYNC1. -/
def State.sync1 (s : State) : Byte := s.prof1.extractLsb' 8 8

/-- PROF1.ESC. -/
def State.esc (s : State) : Byte := s.prof1.extractLsb' 16 8

/-- PROF1.ETXB. -/
def State.etxb (s : State) : Byte := s.prof1.extractLsb' 24 8

/-- PROF2.LENADJ. -/
def State.lenAdj (s : State) : Nat := (s.prof2.extractLsb' 0 8).toNat

/-- PROF2.XINIT. -/
def State.xinit (s : State) : Byte := s.prof2.extractLsb' 8 8

/-- PROF2.NAKB. -/
def State.nakb (s : State) : Byte := s.prof2.extractLsb' 16 8

/-- PROF2.NAKESC. -/
def State.nakesc (s : State) : Bool := s.prof2.getLsbD 24

/-- CRC0.POLY. -/
def State.poly (s : State) : Half := s.crc0.extractLsb' 0 16

/-- CRC0.INIT. -/
def State.crcInit (s : State) : Half := s.crc0.extractLsb' 16 16

/-- CRC1.XOROUT. -/
def State.xorOut (s : State) : Half := s.crc1.extractLsb' 0 16

/-- CRC1.REFIN. -/
def State.refIn (s : State) : Bool := s.crc1.getLsbD 16

/-- CRC1.REFOUT. -/
def State.refOut (s : State) : Bool := s.crc1.getLsbD 17

/-- RXTO.TIMEOUT. -/
def State.timeout (s : State) : Half := s.rxto.extractLsb' 0 16

/-! ## Events (60_exceptions.md R261, R262, R264) -/

/-- The events; the code of an event is its STATUS bit number (R262). -/
inductive Event where
  | rxfrm
  | chkerr
  | frmerr
  | txdone
  | ovr
  | parerr
  | stoperr
  | brk
  | cmderr
  | busyerr
  | cfgerr
  | oobovf
  | naksent
  | nakdrop
  deriving DecidableEq, Repr

/-- The STATUS bit number of an event (R32, R262). -/
def Event.code : Event → Nat
  | .rxfrm => 0
  | .chkerr => 1
  | .frmerr => 2
  | .txdone => 3
  | .ovr => 4
  | .parerr => 5
  | .stoperr => 6
  | .brk => 7
  | .cmderr => 8
  | .busyerr => 9
  | .cfgerr => 10
  | .oobovf => 11
  | .naksent => 12
  | .nakdrop => 13

/-- Raising an event sets its sticky bit and does nothing else: no state is saved and nothing stops (R261, R264). -/
def State.signal (s : State) (x : Event) : State :=
  { s with sticky := s.sticky ||| (1#14 <<< x.code) }

/-- Returning from events: the host clears the bits it writes as 1 (R126, R264). -/
def State.clearEvents (s : State) (ones : BitVec 14) : State :=
  { s with sticky := s.sticky &&& ~~~ones }

/-! ## The answer to a bus access (20_memory.md R74, 60_exceptions.md R260) -/

/-- A write completes. -/
def State.complete (s : State) : Host.Outcome State Fault Refusal :=
  .next { s with resp := .done }

/-- A read completes with a value. -/
def State.answer (s : State) (v : Word) : Host.Outcome State Fault Refusal :=
  .next { s with resp := .data v }

/-- `raise BusError(off)`: an error response to the host and no other effect (R74). -/
def State.busError (s : State) (off : Offset) : Host.Outcome State Fault Refusal :=
  .next { s with resp := .error off }

/-! ## Shared internal updates -/

/-- The receive path's part of close and of RXFLUSH: FIFOs emptied, decoder to HUNT, candidate cleared (R123, R157). -/
def State.dropReceived (s : State) : State :=
  { s with
    rxfifo := []
    gapPend := false
    replay := []
    oobq := []
    fstate := .hunt
    escp := false
    cand := Candidate.cleared }

/-- Close (R123): EN cleared, everything in flight dropped, a character being shifted cut short. -/
def State.close (s : State) : State :=
  { s.dropReceived with
    ctrl := s.ctrl &&& ~~~1#32
    txq := []
    txsh := none
    txfr := false }

/-- Count `k` discarded wire bytes, modulo 2^16 (R41, R239). -/
def State.discard (s : State) (k : Nat) : State :=
  { s with cntDisc := s.cntDisc + BitVec.ofNat 16 k }

end Sys2Proof.Machine
end

