-- ==== Sys2Proof/Machine/Profile.lean ====
section
/-! DEFINITION. Quantities derived from the profile registers and their legality (10_state.md R29, R30). -/

namespace Sys2Proof.Machine

/-- NSYNC, the number of sync bytes (R29). -/
def State.nsync (s : State) : Nat := if s.nsync2 then 2 else 1

/-- CHKW, the number of checksum bytes (R29, R170). -/
def State.chkw (s : State) : Nat := if s.crcAlg then 2 else 1

/-- OVH, the logical bytes of a frame that are not payload (R29). -/
def State.ovh (s : State) : Nat :=
  s.nsync + s.hasAddr.toNat + s.lenw + 2 * s.endmk.toNat + s.chkw

/-- SYNCSEQ (R29). -/
def State.syncSeq (s : State) : List Byte :=
  if s.nsync2 then [s.sync0, s.sync1] else [s.sync0]

/-- The last byte of SYNCSEQ. -/
def State.lastSync (s : State) : Byte := if s.nsync2 then s.sync1 else s.sync0

/-- LEGAL, conditions L1 to L8 (R30). -/
def State.legal (s : State) : Bool :=
  s.baudDiv != 0#16 &&
  s.parity != 3#2 &&
  s.lenw != 3 &&
  (s.lenw != 0 || s.endmk) &&
  (!s.endmk || s.stuffed) &&
  (!(s.stuffed && s.nsync2) || (s.sync0 == s.esc && s.sync1 != s.esc)) &&
  (!(s.stuffed && !s.nsync2) || s.sync0 != s.esc) &&
  (!s.endmk || (s.etxb != s.esc && s.etxb != s.lastSync))

/-- Open (R122): EN is set when the configuration is legal, else it stays 0 and CFGERR is signalled. -/
def State.openBlock (s : State) : State :=
  if s.legal then { s with ctrl := s.ctrl ||| 1#32 }
  else { s with ctrl := s.ctrl &&& ~~~1#32 }.signal .cfgerr

end Sys2Proof.Machine
end

