-- ==== Sys2Proof/Machine/Checksum.lean ====
section
/-! DEFINITION. The checksum engine (42_checksum.md R170 to R177). -/

namespace Sys2Proof.Machine

/-- XOR-8 update: the low byte is XORed, the high byte kept (R171). -/
def updateXor (acc : Half) (b : Byte) : Half := acc ^^^ b.setWidth 16

/-- One shift of the CRC register (R172). -/
def crcShift (poly r : Half) : Half := if r.msb then (r <<< 1) ^^^ poly else r <<< 1

/-- `k` shifts of the CRC register (R172). -/
def crcShifts (poly : Half) : Nat → Half → Half
  | 0, r => r
  | k + 1, r => crcShifts poly k (crcShift poly r)

/-- CRC-16 update by one byte (R172). -/
def State.updateCrc (s : State) (acc : Half) (b : Byte) : Half :=
  let b' := if s.refIn then b.reverse else b
  crcShifts s.poly 8 (acc ^^^ (b'.setWidth 16 <<< 8))

/-- INITVAL (R173). -/
def State.initval (s : State) : Half := if s.crcAlg then s.crcInit else s.xinit.setWidth 16

/-- UPDATE (R173). -/
def State.update (s : State) (acc : Half) (b : Byte) : Half :=
  if s.crcAlg then s.updateCrc acc b else updateXor acc b

/-- FINAL (R174). -/
def State.final (s : State) (acc : Half) : Half :=
  if s.crcAlg then (if s.refOut then acc.reverse else acc) ^^^ s.xorOut
  else acc &&& 0x00FF#16

/-- UPDATE applied to each byte of a sequence in order. -/
def State.updates (s : State) (acc : Half) (bs : List Byte) : Half := bs.foldl s.update acc

/-- CHECKSUM of a byte sequence (R175). -/
def State.checksum (s : State) (bs : List Byte) : Half := s.final (s.updates s.initval bs)

/-- RANGE, the logical bytes the checksum covers (R176). -/
def State.chkRange (s : State) (a : Byte) (lb p : List Byte) : List Byte :=
  (if s.chkFrom then [] else s.syncSeq) ++ (if s.hasAddr then [a] else []) ++ lb ++ p ++
    (if s.endmk && s.chkTrl then [s.etxb] else [])

/-- Bits 7:0 of a half. -/
def Half.lowByte (h : Half) : Byte := h.extractLsb' 0 8

/-- Bits 15:8 of a half. -/
def Half.highByte (h : Half) : Byte := h.extractLsb' 8 8

/-- CHKBYTES, the checksum field (R116, R177). -/
def State.chkBytes (s : State) (c : Half) : List Byte :=
  if s.crcAlg then
    if s.chkbe then [Half.highByte c, Half.lowByte c] else [Half.lowByte c, Half.highByte c]
  else [Half.lowByte c]

/-- CHKVAL, the received checksum value (R116, R177). -/
def State.chkVal (s : State) (k : List Byte) : Half :=
  let k0 : Byte := k.getD 0 0#8
  let k1 : Byte := k.getD 1 0#8
  if s.crcAlg then (if s.chkbe then k0 ++ k1 else k1 ++ k0) else k0.setWidth 16

end Sys2Proof.Machine
end

