-- ==== Sys2Proof/Machine/Flags.lean ====
section
/-! DEFINITION. The STATUS word, the other computed register values and the IRQ output
(10_state.md R32 to R34, R40 to R42; 60_exceptions.md R265). -/

namespace Sys2Proof.Machine

/-- The states in which a candidate is in progress (R49). -/
def FState.isCand : FState → Bool
  | .hunt => false
  | .sync => false
  | .addr => true
  | .len => true
  | .pay => true
  | .trl => true
  | .chk => true
  | .hold => false

/-- STATUS.TXBUSY: the transmitter is busy (R33, R193). -/
def State.txBusy (s : State) : Bool := !s.txq.isEmpty || s.txsh.isSome

/-- STATUS.TXFULL: a TXCHAR write would be refused (R33, R193). -/
def State.txFull (s : State) : Bool := s.txfr || Config.txfifoDepth ≤ s.txq.length

/-- STATUS live bits 23:16 (R33). -/
def State.liveBits (s : State) : BitVec 8 :=
  BitVec.ofBool false ++ BitVec.ofBool s.txFull ++ BitVec.ofBool s.txfr ++ BitVec.ofBool s.txBusy ++
    BitVec.ofBool (!s.oobq.isEmpty) ++ BitVec.ofBool (!s.rxfifo.isEmpty) ++
    BitVec.ofBool (s.fstate != .hunt && s.fstate != .hold) ++ BitVec.ofBool (s.fstate == .hold)

/-- The STATUS register as a read returns it (R32, R33, R34). -/
def State.statusWord (s : State) : Word := 0#4 ++ s.frmCause ++ s.liveBits ++ 0#2 ++ s.sticky

/-- The CHKACC register: ACC above FINAL(ACC) (R40). -/
def State.chkaccWord (s : State) : Word := s.acc ++ s.final s.acc

/-- The FIFOSTAT register (R42). -/
def State.fifostatWord (s : State) : Word :=
  0#8 ++ BitVec.ofNat 8 s.oobq.length ++ BitVec.ofNat 8 (min s.txq.length 255) ++
    BitVec.ofNat 8 s.rxfifo.length

/-- The IRQ output, a function of the state at every instant (R58, R265). -/
def State.irq (s : State) : Bool :=
  s.sticky &&& s.ien.extractLsb' 0 14 != 0#14 ||
  (s.ien.getLsbD 18 && !s.rxfifo.isEmpty) ||
  (s.ien.getLsbD 19 && !s.oobq.isEmpty) ||
  (s.ien.getLsbD 20 && !s.txBusy)

/-- Why a candidate fails (R34, R235, R236). -/
inductive FailCause where
  | checksum
  | length
  | escape
  | endMark
  | restart
  | char
  | gap
  | timeout
  | overlong
  deriving DecidableEq, Repr

/-- The FRMCAUSE code of a framing error's cause (R34, R236). A checksum error is no framing error and has none. -/
def FailCause.code : FailCause → BitVec 4
  | .checksum => 0#4
  | .length => 1#4
  | .escape => 2#4
  | .endMark => 3#4
  | .restart => 4#4
  | .char => 5#4
  | .gap => 6#4
  | .timeout => 7#4
  | .overlong => 8#4

end Sys2Proof.Machine
end

