-- ==== Sys2Proof/Machine/Operands.lean ====
section
/-! DEFINITION. The operand forms of bus accesses: size and alignment checks, register values, buffer bytes
(20_memory.md R72 to R77; 40_register_ops.md R120, R132, R133). -/

namespace Sys2Proof.Machine

/-- The register region accepts only 4-byte accesses at multiples of 4 (R72). -/
def regionOk (lo : BitVec 2) (size : Size) : Bool := size == .b4 && lo == 0#2

/-- A register access: BusError at its own offset when size or alignment is bad (R72, R74), else its effect. -/
def State.regAccess (s : State) (r : Reg) (lo : BitVec 2) (size : Size)
    (effect : Host.Outcome State Fault Refusal) : Host.Outcome State Fault Refusal :=
  if regionOk lo size then effect else s.busError (r.offset lo)

/-- The value a plain register read returns (R120; R31, R36, R76, R77 for those that read 0).
RXCHAR and OOB are no plain registers (R128, R129). -/
def State.regValue (s : State) (r : Reg) : Word :=
  match r with
  | .id => Config.idValue
  | .ctrl => s.ctrl
  | .line => s.line
  | .prof0 => s.prof0
  | .prof1 => s.prof1
  | .prof2 => s.prof2
  | .crc0 => s.crc0
  | .crc1 => s.crc1
  | .cmd => 0#32
  | .status => s.statusWord
  | .ien => s.ien
  | .txchar => 0#32
  | .rxchar => 0#32
  | .rxinfo => s.rxinfo
  | .oob => 0#32
  | .chkacc => s.chkaccWord
  | .cntok => s.cntOk.setWidth 32
  | .cntchk => s.cntChk.setWidth 32
  | .cntfrm => s.cntFrm.setWidth 32
  | .cntdisc => s.cntDisc.setWidth 32
  | .fifostat => s.fifostatWord
  | .rxto => s.rxto
  | .reserved _ => 0#32

/-- A buffer access is naturally aligned (R73). The buffer bases are multiples of 4, so the index decides. -/
def bufferOk (i : Byte) (size : Size) : Bool := i.toNat % size.bytes == 0

/-- The window offset of byte `i` of the buffer whose base is `0x100 * page` (R44, R71). -/
def bufferOffset (page : BitVec 4) (i : Byte) : Offset := page ++ i

/-- A host read of a buffer: BusError when misaligned, else its bytes in little-endian order (R75, R132, R133);
a byte that nothing has written is a fault of the model (R292). -/
def State.readBuffer (s : State) (page : BitVec 4) (i : Byte) (size : Size) :
    Host.Outcome State Fault Refusal :=
  if bufferOk i size then
    match s.mem.readBytes (bufferOffset page i).toNat size.bytes with
    | .ok bs => s.answer (leValue bs)
    | .error a => .fault (.unwrittenByte a)
  else s.busError (bufferOffset page i)

/-- The value of an entry as RXCHAR shows it (R37, R128). -/
def Entry.word (e : Entry) : Word :=
  BitVec.ofBool true ++ 0#19 ++ BitVec.ofBool e.gap ++ BitVec.ofBool e.brk ++ BitVec.ofBool e.se ++
    BitVec.ofBool e.pe ++ e.b

/-- The value of an out-of-band record as OOB shows it (R39, R129). -/
def OobRec.word (r : OobRec) : Word :=
  BitVec.ofBool true ++ 0#22 ++ BitVec.ofBool r.escd ++ r.byte

end Sys2Proof.Machine
end

