-- ==== Sys2Proof/Machine/Frame.lean ====
section
/-! DEFINITION. The frame encoder (30_encoding.md R110 to R116; 43_transmit.md R190 to R192). -/

namespace Sys2Proof.Machine

/-- N, the logical length of a frame with `n` payload bytes (R110). -/
def State.frameLen (s : State) (n : Nat) : Nat := s.ovh + n

/-- L, the length value, as an integer that may be negative (R111). -/
def State.lenValue (s : State) (n : Nat) : Int := (s.frameLen n : Int) - (s.lenAdj : Int)

/-- The length value fits the length field, or there is none (R111, R153). -/
def State.lenFits (s : State) (n : Nat) : Bool :=
  s.lenw == 0 || (decide (0 ≤ s.lenValue n) && decide (s.lenValue n ≤ 2 ^ (8 * s.lenw) - 1))

/-- LENBYTES (R191). -/
def State.lenBytes (s : State) (l : Nat) : List Byte :=
  let h := BitVec.ofNat 16 l
  if s.lenw == 0 then []
  else if s.lenw == 1 then [Half.lowByte h]
  else if s.lenbe then [Half.highByte h, Half.lowByte h]
  else [Half.lowByte h, Half.highByte h]

/-- The length field of a frame with `n` payload bytes. -/
def State.lenField (s : State) (n : Nat) : List Byte := s.lenBytes (s.lenValue n).toNat

/-- The end marker, when the profile has one (R110, R190). -/
def State.trailer (s : State) : List Byte := if s.endmk then [s.esc, s.etxb] else []

/-- HDR: the address byte, when the profile has one, and the length field (R190). -/
def State.header (s : State) (a : Byte) (n : Nat) : List Byte :=
  (if s.hasAddr then [a] else []) ++ s.lenField n

/-- The checksum field of the frame for address `a` and payload `p` (R177, R190). -/
def State.chkField (s : State) (a : Byte) (p : List Byte) : List Byte :=
  s.chkBytes (s.checksum (s.chkRange a (s.lenField p.length) p))

/-- LOGICAL, the logical frame (R110, R190). -/
def State.logical (s : State) (a : Byte) (p : List Byte) : List Byte :=
  s.syncSeq ++ s.header a p.length ++ p ++ s.trailer ++ s.chkField a p

/-- The byte is in ESCSET (R113). -/
def State.escaped (s : State) (v : Byte) : Bool := v == s.esc || (!s.nsync2 && v == s.sync0)

/-- stuff: the escape byte before every byte of ESCSET (R112). -/
def State.stuff (s : State) : List Byte → List Byte
  | [] => []
  | v :: rest => (if s.escaped v then [s.esc, v] else [v]) ++ State.stuff s rest

/-- WireFrame, the bytes TXFRAME queues (R112, R192). -/
def State.wireFrame (s : State) (a : Byte) (p : List Byte) : List Byte :=
  if s.stuffed then
    s.syncSeq ++ s.stuff (s.header a p.length ++ p) ++ s.trailer ++ s.stuff (s.chkField a p)
  else s.logical a p

end Sys2Proof.Machine
end

