-- ==== Sys2Proof/Machine/Line.lean ====
section
/-! DEFINITION. The character on the serial line and the entries LINE may present
(30_encoding.md R106 to R108; 43_transmit.md R201, R202; 44_receive.md R211). -/

namespace Sys2Proof.Machine

/-- LINE.PARITY selects even or odd parity. -/
def State.hasParity (s : State) : Bool := s.parity == 1#2 || s.parity == 2#2

/-- The number of 1 bits in the low `k` bits of a byte. -/
def onesBelow (d : Byte) : Nat → Nat
  | 0 => 0
  | k + 1 => onesBelow d k + (d.getLsbD k).toNat

/-- The parity bit of a data byte (R107). -/
def State.parityBit (s : State) (d : Byte) : Bool :=
  let odd := onesBelow d Config.dataBits % 2 == 1
  if s.parity == 1#2 then odd else !odd

/-- The data bits of a byte, least significant first (R106). -/
def dataBits (d : Byte) : List Bool := (List.range Config.dataBits).map d.getLsbD

/-- The levels of the character of `d` on the line, in time order: start bit, data, parity, stop bits (R106, R201). -/
def State.charBits (s : State) (d : Byte) : List Bool :=
  [false] ++ dataBits d ++ (if s.hasParity then [s.parityBit d] else []) ++
    (if s.stop2 then [true, true] else [true])

/-- The levels the block drives on TXD for the character it is shifting; none stands for the idle line, mark (R201).
In loopback TXD stays idle (R200). -/
def State.txdBits (s : State) : Option (List Bool) :=
  if s.loop then none else s.txsh.map s.charBits

/-- The byte of eight levels, least significant first (R106). -/
def byteOfBits (bits : List Bool) : Byte :=
  (List.range Config.dataBits).foldl (fun v k => if bits.getD k false then v ||| (1#8 <<< k) else v) 0#8

/-- The entry a receiver decides from the sampled levels of one character, the start bit first
(R106 to R108, R211): a break when every level up to the first stop bit is 0, else a parity error when the parity
bit does not match and a stop-bit error when the first stop bit is 0. The second stop bit is not checked.
DEDUCED, notes/assumptions/14.md. -/
def State.sampleChar (s : State) (levels : List Bool) : Entry :=
  let body := levels.drop 1
  let d := byteOfBits (body.take Config.dataBits)
  let par := body.getD Config.dataBits false
  let stop := body.getD (Config.dataBits + s.hasParity.toNat) false
  if d == 0#8 && !stop && !(s.hasParity && par) then
    { b := 0#8, pe := false, se := false, brk := true, gap := false }
  else
    { b := d, pe := s.hasParity && par != s.parityBit d, se := !stop, brk := false, gap := false }

/-- The levels of one character: start bit, data, parity, stop bits (R106). -/
def State.charLen (s : State) : Nat := 1 + Config.dataBits + s.hasParity.toNat + (1 + s.stop2.toNat)

/-- What a receiver is doing with the levels of RXD (R106, R108). -/
inductive LinePhase where
  /-- Waiting for a start bit. -/
  | waiting
  /-- Within a character, the levels so far. -/
  | taking (levels : List Bool)
  /-- After a break, until the line has returned to 1. -/
  | broken
  deriving DecidableEq, Repr

/-- The entries a receiver reports for the levels of RXD, one level a bit time (R106, R108, R211). After a break it looks for
no start bit until the line has returned to 1, so a line held at 0 is one entry however long it is held (R108). The second
stop bit passes unchecked. DEDUCED, notes/assumptions/14.md. -/
def State.receiveLevels (s : State) : LinePhase → List Bool → List Entry
  | _, [] => []
  | .waiting, l :: rest => s.receiveLevels (if l then .waiting else .taking [l]) rest
  | .taking got, l :: rest =>
    let levels := got ++ [l]
    if levels.length == s.charLen then
      let e := s.sampleChar levels
      e :: s.receiveLevels (if e.brk && !l then .broken else .waiting) rest
    else s.receiveLevels (.taking levels) rest
  | .broken, l :: rest => s.receiveLevels (if l then .waiting else .broken) rest

/-- What LINE may present (R211): no gap flag, a parity error only with parity on, a break only as the one break entry.
DESIGN CHOICE, notes/assumptions/20.md: the entry with byte 0 and a stop-bit error but no break flag is let through, though
with a parity level of 0 its levels are a break's (R108), since R211 does not exclude it. -/
def State.lineAllowed (s : State) (e : Entry) : Bool :=
  !e.gap && (!e.pe || s.hasParity) && (!e.brk || (e.b == 0#8 && !e.pe && !e.se))

/-- CT, the character time in units of time; informative, no rule depends on it (R202, R298). -/
def State.charTime (s : State) : Nat :=
  s.charLen * s.baudDiv.toNat * Config.tRef

/-- The silence after which hardware takes RXT's step, in units of time: RXTO.TIMEOUT units of one character time
(R43, R245, RXTO_UNIT of R11); informative, no rule depends on it. -/
def State.timeoutTime (s : State) : Nat := s.timeout.toNat * Config.rxtoUnit * s.charTime

end Sys2Proof.Machine
end

