-- ==== Sys2Proof/Machine/Receive.lean ====
section
/-! DEFINITION. The character receiver, the frame decoder FRX and the receive timeout RXT (44_receive.md R210 to R245);
the automatic NAK (43_transmit.md R204). -/

namespace Sys2Proof.Machine

/-! ## Character receiver (R210 to R214) -/

/-- Where a character comes from (R212). -/
inductive CharSource where
  | ext
  | loopback
  deriving DecidableEq, Repr

/-- `signal` under a condition. -/
def State.signalIf (s : State) (c : Bool) (x : Event) : State := if c then s.signal x else s

/-- A character enters RXFIFO with its flags, or is lost to an overrun (R212 to R214). -/
def State.takeChar (s : State) (e : Entry) : State :=
  if s.rxfifo.length == Config.rxfifoDepth then { s with gapPend := true }.signal .ovr
  else
    let t := { s with rxfifo := s.rxfifo ++ [{ e with gap := s.gapPend }], gapPend := false }
    ((t.signalIf e.pe .parerr).signalIf e.se .stoperr).signalIf e.brk .brk

/-- arrive(e, from) (R212). -/
def State.arrive (s : State) (e : Entry) (src : CharSource) : State :=
  if !s.en || !s.rxen then s
  else
    match src, s.loop with
    | .ext, true => s
    | .loopback, false => s
    | .ext, false => s.takeChar e
    | .loopback, true => s.takeChar e

/-! ## Out-of-band capture, NAK and failures (R204, R235 to R240) -/

/-- oob(v, escd) (R240). -/
def State.oob (s : State) (v : Byte) (escd : Bool) : State :=
  if !s.ooben then s
  else if s.oobq.length == Config.oobDepth then s.signal .oobovf
  else { s with oobq := s.oobq ++ [{ byte := v, escd := escd }] }

/-- A discarded byte: counted and offered to the out-of-band capture (R239, R240). -/
def State.discardByte (s : State) (v : Byte) (escd : Bool) : State :=
  (s.discard (1 + escd.toNat)).oob v escd

/-- auto_nak (R204). -/
def State.autoNak (s : State) : State :=
  if s.txq.isEmpty && s.txsh.isNone && !s.txfr then
    { s with txq := (if s.nakesc then [s.esc] else []) ++ [s.nakb] }.signal .naksent
  else s.signal .nakdrop

/-- checksum_error (R235). -/
def State.checksumError (s : State) : State :=
  let t := { s with cntChk := s.cntChk + 1#16 }.signal .chkerr
  if t.autonak then t.autoNak else t

/-- framing_error(k) (R236). -/
def State.framingError (s : State) (k : FailCause) : State :=
  { s with cntFrm := s.cntFrm + 1#16, frmCause := k.code }.signal .frmerr

/-- Clear the candidate, ESCP and FSTATE (R237). -/
def State.toHunt (s : State) : State :=
  { s with cand := Candidate.cleared, escp := false, fstate := .hunt }

/-- fail(k, pb): the error is reported, an unstuffed candidate's tail and the put-back entry are replayed (R237, R238). -/
def State.fail (s : State) (k : FailCause) (pb : List Entry) : State :=
  let t := if k == .checksum then s.checksumError else s.framingError k
  (if t.stuffed then t else { t with replay := t.cand.ents.tail ++ pb ++ t.replay }).toHunt

/-! ## Candidate fields (R225, R227, R230 to R234) -/

/-- start() (R225). -/
def State.start (s : State) : State :=
  { s with
    cand := { Candidate.cleared with ents := s.cand.ents }
    fstate := if s.hasAddr then .addr else if 0 < s.lenw then .len else .pay }

/-- Acceptance: the payload is handed to the host and held (R234). -/
def State.accept (s : State) : State :=
  { s with
    mem := s.mem.writeBytes Config.rxbufBase s.cand.pay
    rxinfo := 0#8 ++ (if s.hasAddr then s.cand.addr else 0#8) ++ BitVec.ofNat 16 s.cand.pay.length
    cntOk := s.cntOk + 1#16
    cand := Candidate.cleared
    escp := false
    fstate := .hold }.signal .rxfrm

/-- Verification of a complete candidate (R178). -/
def State.verify (s : State) : State :=
  if s.chkVal s.cand.chk == s.checksum (s.chkRange s.cand.addr s.cand.len s.cand.pay) then s.accept
  else s.fail .checksum []

/-- The length value of received length bytes (R111, R230). -/
def State.rxLength (s : State) (lb : List Byte) : Nat :=
  let k0 : Byte := lb.getD 0 0#8
  let k1 : Byte := lb.getD 1 0#8
  if s.lenw == 1 then k0.toNat else if s.lenbe then (k0 ++ k1).toNat else (k1 ++ k0).toNat

/-- The payload length a received length field declares, as an integer (R111, R230). -/
def State.rxPayLen (s : State) (lb : List Byte) : Int :=
  (s.rxLength lb : Int) + (s.lenAdj : Int) - (s.ovh : Int)

/-- len_byte(v) (R230). -/
def State.lenByte (s : State) (v : Byte) : State :=
  let lb := s.cand.len ++ [v]
  let t := { s with cand := { s.cand with len := lb } }
  if lb.length == s.lenw then
    let n := s.rxPayLen lb
    if n < 1 ∨ (Config.bufSize : Int) < n then t.fail .length []
    else { t with cand := { t.cand with nexp := some n.toNat }, fstate := .pay }
  else t

/-- pay_byte(v) (R231). -/
def State.payByte (s : State) (v : Byte) : State :=
  let pay := s.cand.pay ++ [v]
  match s.cand.nexp with
  | none =>
    if s.cand.pay.length == Config.bufSize then s.fail .overlong []
    else { s with cand := { s.cand with pay := pay } }
  | some n =>
    let t := { s with cand := { s.cand with pay := pay } }
    if pay.length == n then { t with fstate := if s.endmk then .trl else .chk } else t

/-- chk_byte(v) (R233). -/
def State.chkByte (s : State) (v : Byte) : State :=
  let t := { s with cand := { s.cand with chk := s.cand.chk ++ [v] } }
  if t.cand.chk.length == t.chkw then t.verify else t

/-- data(v): a logical byte of a candidate (R227, R232). FSTATE is a candidate state. -/
def State.dataByte (s : State) (v : Byte) : State :=
  match s.fstate with
  | .addr =>
    { s with cand := { s.cand with addr := v }, fstate := if 0 < s.lenw then .len else .pay }
  | .len => s.lenByte v
  | .pay => s.payByte v
  | .trl => s.fail .endMark []
  | .chk => s.chkByte v
  | .hunt => s
  | .sync => s
  | .hold => s

/-! ## Unstuffed profiles (R223, R224, R226) -/

/-- A character error in an entry. -/
def Entry.err (e : Entry) : Bool := e.pe || e.se || e.brk

/-- Hunting, unstuffed (R223). -/
def State.plainHunt (s : State) (e : Entry) : State :=
  if e.err then s.discard 1
  else if e.b == s.sync0 then
    let t := { s with cand := { s.cand with ents := [{ e with gap := false }] } }
    if s.nsync2 then { t with fstate := .sync } else t.start
  else s.discardByte e.b false

/-- Second sync byte, unstuffed (R224). -/
def State.plainSync (s : State) (e : Entry) : State :=
  if e.gap || e.err || e.b != s.sync1 then
    let t := s.discardByte s.sync0 false
    { t with cand := Candidate.cleared, fstate := .hunt, replay := e :: t.replay }
  else { s with cand := { s.cand with ents := s.cand.ents ++ [e] } }.start

/-- Candidate states, unstuffed (R226). -/
def State.plainCand (s : State) (e : Entry) : State :=
  if e.gap then s.fail .gap [e]
  else if e.err then s.fail .char [e]
  else { s with cand := { s.cand with ents := s.cand.ents ++ [e] } }.dataByte e.b

/-- plain_step(e) (R222, R223, R224, R226). -/
def State.plainStep (s : State) (e : Entry) : State :=
  match s.fstate with
  | .hunt => s.plainHunt e
  | .sync => s.plainSync e
  | .addr => s.plainCand e
  | .len => s.plainCand e
  | .pay => s.plainCand e
  | .trl => s.plainCand e
  | .chk => s.plainCand e
  | .hold => s

/-! ## Stuffed profiles (R114, R221, R228, R229) -/

/-- The tokens of a stuffed wire stream (R114, R221). -/
inductive Token where
  | start
  | data (v : Byte) (escd : Bool)
  | endMark
  | badEsc (v : Byte)
  deriving DecidableEq, Repr

/-- The token a byte means under ESCP; none for an ESC, after which ESCP is 1 (R114). -/
def State.token (s : State) (b : Byte) : Option Token :=
  if s.escp then
    if b == s.esc then some (.data b true)
    else if !s.nsync2 && b == s.sync0 then some (.data b true)
    else if s.nsync2 && b == s.sync1 then some .start
    else if s.endmk && b == s.etxb then some .endMark
    else some (.badEsc b)
  else
    if b == s.esc then none
    else if !s.nsync2 && b == s.sync0 then some .start
    else some (.data b false)

/-- outside(t) (R228). -/
def State.outside (s : State) (t : Token) : State :=
  match t with
  | .start => s.start
  | .data v escd => s.discardByte v escd
  | .endMark => s.discardByte s.etxb true
  | .badEsc v => s.discardByte v true

/-- in_candidate(t) (R229). -/
def State.inCandidate (s : State) (t : Token) : State :=
  match t with
  | .start => (s.fail .restart []).start
  | .badEsc _ => s.fail .escape []
  | .endMark =>
    if s.fstate == .trl then { s with fstate := .chk }
    else if s.fstate == .pay && s.cand.nexp.isNone then
      if s.cand.pay.isEmpty then s.fail .length [] else { s with fstate := .chk }
    else s.fail .endMark []
  | .data v _ => s.dataByte v

/-- The gap part of a stuffed step (R221). -/
def State.stuffedGap (s : State) : State :=
  if s.fstate.isCand then s.fail .gap []
  else if s.escp then { s.discard 1 with escp := false }
  else s

/-- The character-error part of a stuffed step (R221). -/
def State.stuffedErr (s : State) : State :=
  let t := if s.fstate.isCand then s.fail .char [] else if s.escp then s.discard 1 else s
  { t with escp := false }.discard 1

/-- The token part of a stuffed step (R221): the token updates ESCP (R114) and is then handled. -/
def State.stuffedByte (s : State) (b : Byte) : State :=
  match s.token b with
  | none => { s with escp := true }
  | some t =>
    let u := { s with escp := false }
    if u.fstate.isCand then u.inCandidate t else u.outside t

/-- stuffed_step(e) (R221): gap, then character flags, then token (R263). -/
def State.stuffedStep (s : State) (e : Entry) : State :=
  let t := if e.gap then s.stuffedGap else s
  if e.err then t.stuffedErr else t.stuffedByte e.b

/-! ## The steps of FRX and RXT (R220, R222, R245) -/

/-- FRX's step is enabled (R220). -/
def State.frxEnabled (s : State) : Bool :=
  s.en && s.frmen && s.fstate != .hold && (!s.replay.isEmpty || !s.rxfifo.isEmpty)

/-- next(): the input entry, from REPLAY before RXFIFO (R220, R243). -/
def State.nextEntry (s : State) : Option (Entry × State) :=
  match s.replay with
  | e :: rest => some (e, { s with replay := rest })
  | [] =>
    match s.rxfifo with
    | e :: rest => some (e, { s with rxfifo := rest })
    | [] => none

/-- frx_step() (R222): one entry is consumed; nothing happens where the step is not enabled (R220). -/
def State.frxStep (s : State) : State :=
  if s.frxEnabled then
    match s.nextEntry with
    | none => s
    | some (e, t) => if t.stuffed then t.stuffedStep e else t.plainStep e
  else s

/-- RXT's step is enabled (R245). -/
def State.rxtEnabled (s : State) : Bool :=
  s.en && s.frmen && s.timeout != 0#16 && (s.fstate == .sync || s.fstate.isCand) &&
    s.replay.isEmpty && s.rxfifo.isEmpty

/-- rxt_step() (R245); nothing happens where the step is not enabled. -/
def State.rxtStep (s : State) : State :=
  if s.rxtEnabled then
    if s.fstate == .sync then
      { s.discardByte s.sync0 false with cand := Candidate.cleared, fstate := .hunt }
    else s.fail .timeout []
  else s

end Sys2Proof.Machine
end

