-- ==== Sys2Proof/Machine/Transmit.lean ====
section
/-! DEFINITION. The transmitter's steps LOAD and EMIT and the loopback (43_transmit.md R193 to R203). -/

namespace Sys2Proof.Machine

/-- LOAD is enabled (R195). -/
def State.loadEnabled (s : State) : Bool := s.en && s.txen && s.txsh.isNone && !s.txq.isEmpty

/-- EMIT is enabled (R195). -/
def State.emitEnabled (s : State) : Bool := s.en && s.txsh.isSome

/-- LOAD (R198); nothing happens where the step is not enabled. -/
def State.loadStep (s : State) : State :=
  if s.loadEnabled then { s with txsh := s.txq.head?, txq := s.txq.tail } else s

/-- loop_deliver(b): a clean character arrives from the block's own transmitter (R200). -/
def State.loopDeliver (s : State) (b : Byte) : State :=
  s.arrive { b := b, pe := false, se := false, brk := false, gap := false } .loopback

/-- The end of a frame: the EMIT that leaves TXQ empty ends it and signals TXDONE (R197, R199). -/
def State.endFrame (s : State) : State :=
  if s.txfr && s.txq.isEmpty then { s with txfr := false }.signal .txdone else s

/-- EMIT (R199), enabled as R195 says; nothing happens where the step is not enabled. -/
def State.emitStep (s : State) : State :=
  match s.en, s.txsh with
  | true, some b =>
    let t := { s with txsh := none }
    (if t.loop then t.loopDeliver b else { t with lineOut := t.lineOut ++ [b] }).endFrame
  | _, _ => s

/-- TXFRAME is accepted: the transmitter is not busy and no frame is in transmission (R193). -/
def State.txIdle (s : State) : Bool := !s.txBusy && !s.txfr

end Sys2Proof.Machine
end

