-- ==== Sys2Proof/Machine/Registers.lean ====
section
/-! DEFINITION. The meanings of the register accesses (40_register_ops.md R120 to R131, R134; 20_memory.md R76, R77). -/

namespace Sys2Proof.Machine

/-- RD.REG: plain register read (R120, R76, R77). -/
def execRdReg (r : Reg) (lo : BitVec 2) (size : Size) (s : State) : Host.Outcome State Fault Refusal :=
  s.regAccess r lo size (s.answer (s.regValue r))

/-- The CTRL fields a write stores, before the EN transition (R124): while open, a write that would change FRMEN or
LOOP keeps both and signals CFGERR. -/
def State.ctrlFields (s : State) (w : Word) : State :=
  let old := s.ctrl
  let refuse := s.en && (w &&& 0x18#32 != old &&& 0x18#32)
  let v := if refuse then (w &&& ~~~0x18#32) ||| (old &&& 0x18#32) else w
  { s with ctrl := (v &&& 0x7E#32) ||| (old &&& 1#32) }.signalIf refuse .cfgerr

/-- WR.CTRL (R124), with open (R122) and close (R123). -/
def State.writeCtrl (s : State) (w : Word) : State :=
  let t := s.ctrlFields (w &&& 0x7F#32)
  if !s.en && w.getLsbD 0 then t.openBlock
  else if s.en && !w.getLsbD 0 then t.close
  else t

/-- WR.CTRL (R124). -/
def execWrCtrl (lo : BitVec 2) (size : Size) (wdata : Word) (s : State) : Host.Outcome State Fault Refusal :=
  s.regAccess .ctrl lo size (s.writeCtrl wdata).complete

/-- A write to a locked register (R121): while open it is refused with CFGERR, else `stored` takes its place. -/
def State.lockedWrite (s stored : State) : State := if s.en then s.signal .cfgerr else stored

/-- WR.LINE (R121, R23). -/
def execWrLine (lo : BitVec 2) (size : Size) (wdata : Word) (s : State) : Host.Outcome State Fault Refusal :=
  s.regAccess .line lo size (s.lockedWrite { s with line := wdata &&& 0x0007FFFF#32 }).complete

/-- WR.PROF0 (R121, R24). -/
def execWrProf0 (lo : BitVec 2) (size : Size) (wdata : Word) (s : State) : Host.Outcome State Fault Refusal :=
  s.regAccess .prof0 lo size (s.lockedWrite { s with prof0 := wdata &&& 0x000007FF#32 }).complete

/-- WR.PROF1 (R121, R25). -/
def execWrProf1 (lo : BitVec 2) (size : Size) (wdata : Word) (s : State) : Host.Outcome State Fault Refusal :=
  s.regAccess .prof1 lo size (s.lockedWrite { s with prof1 := wdata &&& 0xFFFFFFFF#32 }).complete

/-- WR.PROF2 (R121, R26). -/
def execWrProf2 (lo : BitVec 2) (size : Size) (wdata : Word) (s : State) : Host.Outcome State Fault Refusal :=
  s.regAccess .prof2 lo size (s.lockedWrite { s with prof2 := wdata &&& 0x01FFFFFF#32 }).complete

/-- WR.CRC0 (R121, R27). -/
def execWrCrc0 (lo : BitVec 2) (size : Size) (wdata : Word) (s : State) : Host.Outcome State Fault Refusal :=
  s.regAccess .crc0 lo size (s.lockedWrite { s with crc0 := wdata &&& 0xFFFFFFFF#32 }).complete

/-- WR.CRC1 (R121, R28). -/
def execWrCrc1 (lo : BitVec 2) (size : Size) (wdata : Word) (s : State) : Host.Outcome State Fault Refusal :=
  s.regAccess .crc1 lo size (s.lockedWrite { s with crc1 := wdata &&& 0x0003FFFF#32 }).complete

/-- WR.STATUS: write 1 to clear (R126). -/
def execWrStatus (lo : BitVec 2) (size : Size) (wdata : Word) (s : State) : Host.Outcome State Fault Refusal :=
  s.regAccess .status lo size (s.clearEvents (wdata.extractLsb' 0 14)).complete

/-- WR.IEN (R125). -/
def execWrIen (lo : BitVec 2) (size : Size) (wdata : Word) (s : State) : Host.Outcome State Fault Refusal :=
  s.regAccess .ien lo size (State.complete { s with ien := wdata &&& 0x001C3FFF#32 })

/-- WR.RXTO (R125). -/
def execWrRxto (lo : BitVec 2) (size : Size) (wdata : Word) (s : State) : Host.Outcome State Fault Refusal :=
  s.regAccess .rxto lo size (State.complete { s with rxto := wdata &&& 0x0000FFFF#32 })

/-- Queueing a raw character (R127, R193). -/
def State.queueChar (s : State) (v : Byte) : State :=
  if !s.en then s.signal .cmderr
  else if s.txFull then s.signal .busyerr
  else { s with txq := s.txq ++ [v] }

/-- WR.TXCHAR (R127). -/
def execWrTxchar (lo : BitVec 2) (size : Size) (wdata : Word) (s : State) : Host.Outcome State Fault Refusal :=
  s.regAccess .txchar lo size (s.queueChar (wdata.extractLsb' 0 8)).complete

/-- RD.RXCHAR: pop a received character in raw mode (R128). -/
def execRdRxchar (lo : BitVec 2) (size : Size) (s : State) : Host.Outcome State Fault Refusal :=
  s.regAccess .rxchar lo size
    (if s.frmen then s.answer 0#32
     else
      match s.rxfifo with
      | [] => s.answer 0#32
      | e :: rest => State.answer { s with rxfifo := rest } e.word)

/-- RD.OOB: pop an out-of-band record (R129). -/
def execRdOob (lo : BitVec 2) (size : Size) (s : State) : Host.Outcome State Fault Refusal :=
  s.regAccess .oob lo size
    (match s.oobq with
     | [] => s.answer 0#32
     | r :: rest => State.answer { s with oobq := rest } r.word)

/-- WR.CHKACC (R130). -/
def execWrChkacc (lo : BitVec 2) (size : Size) (wdata : Word) (s : State) : Host.Outcome State Fault Refusal :=
  s.regAccess .chkacc lo size (State.complete { s with acc := wdata.extractLsb' 0 16 })

/-- WR.CNTOK: any write clears (R131). -/
def execWrCntok (lo : BitVec 2) (size : Size) (_wdata : Word) (s : State) : Host.Outcome State Fault Refusal :=
  s.regAccess .cntok lo size (State.complete { s with cntOk := 0#16 })

/-- WR.CNTCHK: any write clears (R131). -/
def execWrCntchk (lo : BitVec 2) (size : Size) (_wdata : Word) (s : State) : Host.Outcome State Fault Refusal :=
  s.regAccess .cntchk lo size (State.complete { s with cntChk := 0#16 })

/-- WR.CNTFRM: any write clears (R131). -/
def execWrCntfrm (lo : BitVec 2) (size : Size) (_wdata : Word) (s : State) : Host.Outcome State Fault Refusal :=
  s.regAccess .cntfrm lo size (State.complete { s with cntFrm := 0#16 })

/-- WR.CNTDISC: any write clears (R131). -/
def execWrCntdisc (lo : BitVec 2) (size : Size) (_wdata : Word) (s : State) : Host.Outcome State Fault Refusal :=
  s.regAccess .cntdisc lo size (State.complete { s with cntDisc := 0#16 })

/-- WR.RO: a write to a read-only register is ignored without error (R77). -/
def execWrRo (r : Reg) (lo : BitVec 2) (size : Size) (_wdata : Word) (s : State) :
    Host.Outcome State Fault Refusal :=
  s.regAccess r lo size s.complete

/-- WR.RESERVED: ignored without error (R76). In the register region a bad size or alignment is BusError (R72);
from 0x300 on every size and alignment completes (R73). -/
def execWrReserved (off : Offset) (size : Size) (_wdata : Word) (s : State) : Host.Outcome State Fault Refusal :=
  if 0x300#12 ≤ off || regionOk (off.extractLsb' 0 2) size then s.complete else s.busError off

/-- RD.RESERVED.HIGH: reads 0 at every size and alignment (R73, R76). -/
def execRdReservedHigh (_off : Offset) (_size : Size) (s : State) : Host.Outcome State Fault Refusal :=
  s.answer 0#32

end Sys2Proof.Machine
end

