-- ==== Sys2Proof/Machine/Buffers.lean ====
section
/-! DEFINITION. The meanings of the buffer accesses (40_register_ops.md R132, R133; 20_memory.md R73 to R77). -/

namespace Sys2Proof.Machine

/-- RD.TXBUF (R132). -/
def execRdTxbuf (i : Byte) (size : Size) (s : State) : Host.Outcome State Fault Refusal :=
  s.readBuffer 1#4 i size

/-- WR.TXBUF: the access's bytes are stored in little-endian order (R75, R132). -/
def execWrTxbuf (i : Byte) (size : Size) (wdata : Word) (s : State) : Host.Outcome State Fault Refusal :=
  if bufferOk i size then
    State.complete { s with mem := s.mem.writeBytes (bufferOffset 1#4 i).toNat (leBytes size.bytes wdata) }
  else s.busError (bufferOffset 1#4 i)

/-- RD.RXBUF (R133). -/
def execRdRxbuf (i : Byte) (size : Size) (s : State) : Host.Outcome State Fault Refusal :=
  s.readBuffer 2#4 i size

/-- WR.RXBUF: ignored without error when aligned (R77, R133). -/
def execWrRxbuf (i : Byte) (size : Size) (_wdata : Word) (s : State) : Host.Outcome State Fault Refusal :=
  if bufferOk i size then s.complete else s.busError (bufferOffset 2#4 i)

end Sys2Proof.Machine
end

