-- ==== Sys2Proof/Machine/Commands.lean ====
section
/-! DEFINITION. The meanings of the commands (41_commands.md R150 to R161) and of the write to CMD that performs one
(40_register_ops.md R134). A refused command completes its bus access (R17). -/

namespace Sys2Proof.Machine

/-- NOP (R151). -/
def execNop (s : State) : Host.Outcome State Fault Refusal := s.complete

/-- SRST: close if open, then clear events, RXINFO, ACC and the counters (R152). -/
def execSrst (s : State) : Host.Outcome State Fault Refusal :=
  State.complete
    { (if s.en then s.close else s) with
      sticky := 0#14
      frmCause := 0#4
      rxinfo := 0#32
      acc := 0#16
      cntOk := 0#16
      cntChk := 0#16
      cntFrm := 0#16
      cntDisc := 0#16 }

/-- TXFRAME is refused as illegal: closed, a bad payload length, or a length value that does not fit (R153). -/
def State.txframeIllegal (s : State) (n : Nat) : Bool :=
  !s.en || n < 1 || Config.bufSize < n || !s.lenFits n

/-- TXFRAME (R153): the checks in the order listed, then the payload is read once and its wire frame queued. -/
def execTxframe (a : Byte) (n : Half) (s : State) : Host.Outcome State Fault Refusal :=
  if s.txframeIllegal n.toNat then (s.signal .cmderr).complete
  else if !s.txIdle then (s.signal .busyerr).complete
  else
    match s.mem.readBytes Config.txbufBase n.toNat with
    | .ok p => State.complete { s with txq := s.wireFrame a p, txfr := true }
    | .error off => .fault (.unwrittenByte off)

/-- TXABORT (R154). -/
def execTxabort (s : State) : Host.Outcome State Fault Refusal :=
  State.complete { s with txq := [], txfr := false }

/-- RXRELEASE (R155). -/
def execRxrelease (s : State) : Host.Outcome State Fault Refusal :=
  if s.fstate == .hold then State.complete { s with fstate := .hunt } else (s.signal .cmderr).complete

/-- RESYNC (R156). -/
def execResync (s : State) : Host.Outcome State Fault Refusal :=
  if s.fstate == .hold then (s.signal .cmderr).complete
  else State.complete { s with fstate := .hunt, escp := false, cand := Candidate.cleared }

/-- RXFLUSH (R157). -/
def execRxflush (s : State) : Host.Outcome State Fault Refusal := s.dropReceived.complete

/-- CHKINIT (R158). -/
def execChkinit (s : State) : Host.Outcome State Fault Refusal :=
  State.complete { s with acc := s.initval }

/-- CHKFEED (R159). -/
def execChkfeed (d : Byte) (s : State) : Host.Outcome State Fault Refusal :=
  State.complete { s with acc := s.update s.acc d }

/-- CHKFEEDBUF (R160). -/
def execChkfeedbuf (start : Byte) (n : Half) (s : State) : Host.Outcome State Fault Refusal :=
  if Config.bufSize < start.toNat + n.toNat then (s.signal .cmderr).complete
  else
    match s.mem.readBytes (Config.txbufBase + start.toNat) n.toNat with
    | .ok p => State.complete { s with acc := s.updates s.acc p }
    | .error off => .fault (.unwrittenByte off)

/-- UNDEFINED: refused with CMDERR (R161, R92). -/
def execUndefined (_opc : Byte) (s : State) : Host.Outcome State Fault Refusal :=
  (s.signal .cmderr).complete

/-- perform(w) (R150): the case on bits 7:0 of the command word. -/
def perform (w : Word) (s : State) : Host.Outcome State Fault Refusal :=
  let opc : Byte := w.extractLsb' 0 8
  let arg8 : Byte := w.extractLsb' 8 8
  let arg16 : Half := w.extractLsb' 16 16
  if opc == 0x00#8 then execNop s
  else if opc == 0x01#8 then execSrst s
  else if opc == 0x02#8 then execTxframe arg8 arg16 s
  else if opc == 0x03#8 then execTxabort s
  else if opc == 0x04#8 then execRxrelease s
  else if opc == 0x05#8 then execResync s
  else if opc == 0x06#8 then execRxflush s
  else if opc == 0x07#8 then execChkinit s
  else if opc == 0x08#8 then execChkfeed arg8 s
  else if opc == 0x09#8 then execChkfeedbuf arg8 arg16 s
  else execUndefined opc s

/-- WR.CMD: a 4-byte aligned write performs the command (R134, R72). -/
def execWrCmd (lo : BitVec 2) (size : Size) (wdata : Word) (s : State) : Host.Outcome State Fault Refusal :=
  s.regAccess .cmd lo size (perform wdata s)

end Sys2Proof.Machine
end

