-- ==== Sys2Proof/Machine/Agents.lean ====
section
/-! DEFINITION. The moves of the agents other than HOST, the reset input, and the fetch of the next move
(00_scope.md R7 to R9; 70_reset_and_hazards.md R290). -/

namespace Sys2Proof.Machine

/-- LINE presents a character (R211, R212); an entry LINE may not present takes no step (notes/assumptions/11.md). -/
def State.lineStep (s : State) (e : Entry) : State :=
  if s.lineAllowed e then s.arrive e .ext else s

/-- Releasing an asserted reset input puts every piece of state at its reset value (R61, R290).
The moves to come are the outside world's and stay. -/
def State.releaseReset (s : State) : State :=
  if s.resetIn then { State.reset with sched := s.sched } else s

/-- A move of an agent other than HOST. While the reset input is asserted no agent takes a step (R290);
a move that is not enabled takes no step (notes/assumptions/4.md). -/
def agentMove (m : Move) (s : State) : State :=
  match m with
  | .host _ => s
  | .line e => if s.resetIn then s else s.lineStep e
  | .load => if s.resetIn then s else s.loadStep
  | .emit => if s.resetIn then s else s.emitStep
  | .frx => if s.resetIn then s else s.frxStep
  | .rxt => if s.resetIn then s else s.rxtStep
  | .assertReset => { s with resetIn := true }
  | .releaseReset => s.releaseReset

/-- The move the internal agents make by themselves once the schedule has run out: an enabled step of FRX, else of TXU.
So an internal agent whose step stays enabled takes it (weak fairness, R9), and every run of the machine is fair; LINE and
RXT have no such obligation and move only when scheduled. The order FRX, EMIT, LOAD is a DESIGN CHOICE,
notes/assumptions/3.md; every other interleaving can be scheduled. -/
def internalMove (s : State) : Option Move :=
  if s.resetIn then none
  else if s.frxEnabled then some .frx
  else if s.emitEnabled then some .emit
  else if s.loadEnabled then some .load
  else none

/-- What is to be done next, and the state with a scheduled move taken off the schedule. -/
inductive Fetched where
  | idle
  | host (h : HostWord) (s : State)
  | agent (m : Move) (s : State)
  deriving DecidableEq, Repr

/-- Take the next move off the schedule, or the internal agents' own move when the schedule has run out. -/
def fetch (s : State) : Fetched :=
  match s.sched with
  | [] =>
    match internalMove s with
    | none => .idle
    | some m => .agent m s
  | .host h :: rest => .host h { s with sched := rest }
  | m :: rest => .agent m { s with sched := rest }

/-- Put a host word where the next move is taken from, with the reset input released so that it runs. -/
def placeHostWord (s : State) (h : HostWord) : State :=
  { s with sched := .host h :: s.sched, resetIn := false }

end Sys2Proof.Machine
end

