-- ==== Sys2Proof/Machine/Dispatch.lean ====
section
/-! DEFINITION. The dispatch: one arm per instruction, each one direct call of its meaning. -/

namespace Sys2Proof.Machine

def exec (i : Instr) (s : State) : Host.Outcome State Fault Refusal :=
  match i with
  | .nop => Sys2Proof.Machine.execNop s
  | .srst => Sys2Proof.Machine.execSrst s
  | .txframe addr n => Sys2Proof.Machine.execTxframe addr n s
  | .txabort => Sys2Proof.Machine.execTxabort s
  | .rxrelease => Sys2Proof.Machine.execRxrelease s
  | .resync => Sys2Proof.Machine.execResync s
  | .rxflush => Sys2Proof.Machine.execRxflush s
  | .chkinit => Sys2Proof.Machine.execChkinit s
  | .chkfeed d => Sys2Proof.Machine.execChkfeed d s
  | .chkfeedbuf start n => Sys2Proof.Machine.execChkfeedbuf start n s
  | .undefined opc => Sys2Proof.Machine.execUndefined opc s
  | .rdReg r lo size => Sys2Proof.Machine.execRdReg r lo size s
  | .wrCtrl lo size wdata => Sys2Proof.Machine.execWrCtrl lo size wdata s
  | .wrLine lo size wdata => Sys2Proof.Machine.execWrLine lo size wdata s
  | .wrProf0 lo size wdata => Sys2Proof.Machine.execWrProf0 lo size wdata s
  | .wrProf1 lo size wdata => Sys2Proof.Machine.execWrProf1 lo size wdata s
  | .wrProf2 lo size wdata => Sys2Proof.Machine.execWrProf2 lo size wdata s
  | .wrCrc0 lo size wdata => Sys2Proof.Machine.execWrCrc0 lo size wdata s
  | .wrCrc1 lo size wdata => Sys2Proof.Machine.execWrCrc1 lo size wdata s
  | .wrCmd lo size wdata => Sys2Proof.Machine.execWrCmd lo size wdata s
  | .wrStatus lo size wdata => Sys2Proof.Machine.execWrStatus lo size wdata s
  | .wrIen lo size wdata => Sys2Proof.Machine.execWrIen lo size wdata s
  | .wrTxchar lo size wdata => Sys2Proof.Machine.execWrTxchar lo size wdata s
  | .rdRxchar lo size => Sys2Proof.Machine.execRdRxchar lo size s
  | .rdOob lo size => Sys2Proof.Machine.execRdOob lo size s
  | .wrChkacc lo size wdata => Sys2Proof.Machine.execWrChkacc lo size wdata s
  | .wrCntok lo size wdata => Sys2Proof.Machine.execWrCntok lo size wdata s
  | .wrCntchk lo size wdata => Sys2Proof.Machine.execWrCntchk lo size wdata s
  | .wrCntfrm lo size wdata => Sys2Proof.Machine.execWrCntfrm lo size wdata s
  | .wrCntdisc lo size wdata => Sys2Proof.Machine.execWrCntdisc lo size wdata s
  | .wrRxto lo size wdata => Sys2Proof.Machine.execWrRxto lo size wdata s
  | .wrRo r lo size wdata => Sys2Proof.Machine.execWrRo r lo size wdata s
  | .wrReserved off size wdata => Sys2Proof.Machine.execWrReserved off size wdata s
  | .rdReservedHigh off size => Sys2Proof.Machine.execRdReservedHigh off size s
  | .rdTxbuf k size => Sys2Proof.Machine.execRdTxbuf k size s
  | .wrTxbuf k size wdata => Sys2Proof.Machine.execWrTxbuf k size wdata s
  | .rdRxbuf k size => Sys2Proof.Machine.execRdRxbuf k size s
  | .wrRxbuf k size wdata => Sys2Proof.Machine.execWrRxbuf k size wdata s

end Sys2Proof.Machine
end

