-- ==== Sys2Proof/Machine/Step.lean ====
section
/-! DEFINITION. One step of the machine: the next move of the schedule (00_scope.md R7, R8, R79). -/

namespace Sys2Proof.Machine

/-- A host word is decoded and executed; during reset the access is a fault of the model (R290, entry I20 (c)). -/
def hostStep (h : HostWord) (s : State) : Host.Outcome State Fault Refusal :=
  if s.resetIn then .fault .accessInReset
  else
    match decode h with
    | .ok i => exec i s
    | .error e => .refused (.noSuchAccess e)

/-- One atomic step (R8): the next move is taken off the schedule and made; once the schedule has run out the internal agents
make their enabled steps by themselves (R9), and with none enabled nothing moves (notes/assumptions/3.md). -/
def step (s : State) : Host.Outcome State Fault Refusal :=
  match fetch s with
  | .idle => .next s
  | .host h t => hostStep h t
  | .agent m t => .next (agentMove m t)

/-- The state whose very next step runs the table word's instruction (notes/assumptions/2.md). -/
def State.withFetchWord (s : State) (nbits w : Nat) : State := placeHostWord s (tableWord nbits w)

end Sys2Proof.Machine
end

