-- ==== Sys2Proof/Safety.lean ====
section
/-! DEFINITION. What the claims say of states: the invariant of the machine, part by part, and runs of scheduled moves. -/

namespace Sys2Proof.Safety

open Sys2Proof.Machine

/-- The buffers are in canonical form and hold bytes of TXBUF and RXBUF only (10_state.md R44). -/
def MemOk (s : State) : Prop :=
  s.mem.wf = true ∧ ∀ c ∈ s.mem, Config.txbufBase ≤ c.1 ∧ c.1 < Config.rxbufBase + Config.bufSize

/-- Every reserved bit of a stored register is 0 (20_memory.md R76) and no reserved FRMCAUSE code is held (R34). -/
def ReservedZero (s : State) : Prop :=
  s.ctrl &&& 0xFFFFFF80#32 = 0#32 ∧
  s.line &&& 0xFFF80000#32 = 0#32 ∧
  s.prof0 &&& 0xFFFFF800#32 = 0#32 ∧
  s.prof2 &&& 0xFE000000#32 = 0#32 ∧
  s.crc1 &&& 0xFFFC0000#32 = 0#32 ∧
  s.ien &&& 0xFFE3C000#32 = 0#32 ∧
  s.rxinfo &&& 0xFF000000#32 = 0#32 ∧
  s.rxto &&& 0xFFFF0000#32 = 0#32 ∧
  s.frmCause ≤ 8#4

/-- The FIFOs hold at most their depths (R46, R52). -/
def DepthsOk (s : State) : Prop :=
  s.rxfifo.length ≤ Config.rxfifoDepth ∧ s.oobq.length ≤ Config.oobDepth

/-- A closed block has nothing in flight (40_register_ops.md R123; 43_transmit.md R203). -/
def ClosedQuiet (s : State) : Prop :=
  s.en = false →
    s.rxfifo = [] ∧ s.gapPend = false ∧ s.replay = [] ∧ s.oobq = [] ∧ s.fstate = .hunt ∧ s.escp = false ∧
    s.cand = Candidate.cleared ∧ s.txq = [] ∧ s.txsh = none ∧ s.txfr = false

/-- An open block has a legal configuration (R30, R122; 30_encoding.md R117). -/
def OpenLegal (s : State) : Prop := s.en = true → s.legal = true

/-- The transmit queue: its bounds, and a frame in transmission still has a byte to send (R53, R194, R197). -/
def TxOk (s : State) : Prop :=
  s.txq.length ≤ Config.maxWire ∧
  (s.txfr = false → s.txq.length ≤ Config.txfifoDepth) ∧
  (s.txfr = true → s.txq ≠ [] ∨ s.txsh.isSome = true)

/-- In raw mode the decoder is idle and OOBQ is empty (44_receive.md R215). -/
def RawIdle (s : State) : Prop :=
  s.frmen = false →
    s.fstate = .hunt ∧ s.escp = false ∧ s.replay = [] ∧ s.cand = Candidate.cleared ∧ s.oobq = []

/-- Every entry held is one LINE may present (R211), apart from its gap flag (R214). -/
def EntriesOk (s : State) : Prop :=
  ∀ e ∈ s.rxfifo ++ s.replay ++ s.cand.ents, s.lineAllowed { e with gap := false } = true

/-- The logical bytes of the candidate taken so far, the sync sequence counted (R29, R110). -/
def candBytes (s : State) : Nat :=
  s.nsync + (if s.fstate == .addr then 0 else s.hasAddr.toNat) + s.cand.len.length + s.cand.pay.length +
    s.cand.chk.length

/-- What the candidate record holds in each decoder state (R49, R51, R225 to R233). -/
def candShape (s : State) : Bool :=
  match s.fstate with
  | .hunt => s.cand == Candidate.cleared
  | .hold => s.cand == Candidate.cleared && !s.escp
  | .sync =>
    !s.stuffed && s.nsync2 && s.cand.ents.length == 1 && { s.cand with ents := [] } == Candidate.cleared
  | .addr => s.hasAddr && { s.cand with ents := [] } == Candidate.cleared
  | .len =>
    s.cand.len.length < s.lenw && s.cand.pay.isEmpty && s.cand.chk.isEmpty && s.cand.nexp.isNone
  | .pay =>
    s.cand.len.length == s.lenw && s.cand.chk.isEmpty &&
      (match s.cand.nexp with
       | none => s.lenw == 0 && s.cand.pay.length ≤ Config.bufSize
       | some n => 0 < s.lenw && n ≤ Config.bufSize && s.cand.pay.length < n)
  | .trl =>
    s.endmk && 0 < s.lenw && s.cand.len.length == s.lenw && 0 < s.cand.pay.length &&
      s.cand.pay.length ≤ Config.bufSize && s.cand.chk.isEmpty
  | .chk =>
    s.cand.len.length == s.lenw && 0 < s.cand.pay.length && s.cand.pay.length ≤ Config.bufSize &&
      s.cand.chk.length < s.chkw

/-- The decoder: the candidate's shape, what each kind of profile keeps, and the bound of R48. -/
def DecoderOk (s : State) : Prop :=
  candShape s = true ∧
  (s.stuffed = true → s.replay = [] ∧ s.cand.ents = []) ∧
  (s.stuffed = false → s.escp = false) ∧
  (s.stuffed = false → s.fstate.isCand = true → s.cand.ents.length = candBytes s) ∧
  s.replay.length + s.cand.ents.length ≤ Config.maxCandidate

/-- The invariant of the SFE. -/
structure Inv (s : State) : Prop where
  mem : MemOk s
  reserved : ReservedZero s
  depths : DepthsOk s
  closed : ClosedQuiet s
  legal : OpenLegal s
  tx : TxOk s
  raw : RawIdle s
  entries : EntriesOk s
  decoder : DecoderOk s

/-- The bytes of a sequence as clean received characters (R45). -/
def cleanEntries (bs : List Byte) : List Entry :=
  bs.map fun b => { b := b, pe := false, se := false, brk := false, gap := false }

/-- The schedule in which LINE presents each byte as a clean character and FRX takes one step after it. -/
def arriveAndDecode (bs : List Byte) : List Move :=
  (cleanEntries bs).flatMap fun e => [Move.line e, Move.frx]

/-- The schedule in which TXU takes LOAD and EMIT `n` times. -/
def sendChars : Nat → List Move
  | 0 => []
  | n + 1 => .load :: .emit :: sendChars n

/-- The steps of the internal agents and when each is enabled (R195, R220); of the other moves none has to be taken (R9). -/
def enabled (m : Move) (s : State) : Prop :=
  match m with
  | .load => s.resetIn = false ∧ s.en = true ∧ s.txen = true ∧ s.txsh = none ∧ s.txq ≠ []
  | .emit => s.resetIn = false ∧ s.en = true ∧ s.txsh ≠ none
  | .frx =>
    s.resetIn = false ∧ s.en = true ∧ s.frmen = true ∧ s.fstate ≠ .hold ∧ (s.replay ≠ [] ∨ s.rxfifo ≠ [])
  | .host _ => False
  | .line _ => False
  | .rxt => False
  | .assertReset => False
  | .releaseReset => False

/-- The next step is this move. -/
def takes (m : Move) (s : State) : Prop := ∃ t, fetch s = .agent m t

/-- An infinite run of the machine: each step answers the next state. -/
def isRun (r : Nat → State) : Prop := ∀ n, step (r n) = .next (r (n + 1))

/-- Weak fairness (R9): an internal agent whose step stays enabled eventually takes it. -/
def weaklyFair (r : Nat → State) : Prop :=
  ∀ (m : Move) (k : Nat), (∀ j, k ≤ j → enabled m (r j)) → ∃ j, k ≤ j ∧ takes m (r j)

/-- A move of LINE, TXU, FRX or RXT: neither the host's nor the reset input's. -/
def ofAgent : Move → Bool
  | .line _ => true
  | .load => true
  | .emit => true
  | .frx => true
  | .rxt => true
  | .host _ => false
  | .assertReset => false
  | .releaseReset => false

/-- The next entry FRX takes is `e`, and `u` is the state with it taken: from REPLAY before RXFIFO (R220, R243). -/
def takesInput (s : State) (e : Entry) (u : State) : Prop :=
  (∃ rest, s.replay = e :: rest ∧ u = { s with replay := rest }) ∨
  (s.replay = [] ∧ ∃ rest, s.rxfifo = e :: rest ∧ u = { s with rxfifo := rest })

/-- The command reads the byte of TXBUF at this window offset (R153, R160). -/
def commandReads (i : Instr) (off : Nat) : Prop :=
  (∃ a n, i = .txframe a n ∧ 0x100 ≤ off ∧ off < 0x100 + n.toNat) ∨
  (∃ st n, i = .chkfeedbuf st n ∧ 0x100 + st.toNat ≤ off ∧ off < 0x100 + st.toNat + n.toNat)

/-- The instruction reads the buffer byte at this window offset (R132, R133, R134, R153, R160). -/
def readsByte (i : Instr) (off : Nat) : Prop :=
  commandReads i off ∨
  (∃ w, i = .wrCmd 0#2 .b4 w ∧ commandReads (decodeCmd w) off) ∨
  (∃ k size, i = .rdTxbuf k size ∧ 0x100 + k.toNat ≤ off ∧ off < 0x100 + k.toNat + size.bytes) ∨
  (∃ k size, i = .rdRxbuf k size ∧ 0x200 + k.toNat ≤ off ∧ off < 0x200 + k.toNat + size.bytes)

/-- `n` steps of the machine lead from `s` to `t` without a stop. -/
def runs (n : Nat) (s t : State) : Prop := Sys2Proof.core.run n s = .next t

/-- The bytes `p` stand at consecutive window offsets from `a` on. -/
def holdsAt (m : Memory) (a : Nat) (p : List Byte) : Prop :=
  ∀ k, k < p.length → m.read (a + k) = some (p.getD k 0#8)

/-- The bus's answer after an outcome is a value. -/
def answers (o : Host.Outcome State Fault Refusal) (v : Word) : Prop :=
  ∃ t, o = .next t ∧ t.resp = .data v

/-- The commands of `bs` fed one by one to the checksum engine (41_commands.md R159). -/
def feedAll : List Byte → State → Host.Outcome State Fault Refusal
  | [], s => .next s
  | b :: rest, s =>
    match exec (.chkfeed b) s with
    | .next t => feedAll rest t
    | .fault r => .fault r
    | .refused r => .refused r

end Sys2Proof.Safety
end

