-- ==== Sys2Proof/Certificates/Slice0/Obligations.lean ====
section
/-! DEFINITION. The statements for the provers. Each docstring names the rules of spec/ it formalises.
The fields `resp`, `sched` and `resetIn` are the model's own (notes/assumptions/5.md, 1.md, 12.md): `resp` holds the outcome
of an access that R17 and R74 give it (`done`, the value a read returns, or BusError at an offset). -/

open Sys2Proof Sys2Proof.Machine Sys2Proof.Safety

/-! ## Steps, decoding and encoding -/

/-- R8, R79, R134: when the next move is a host access that decodes to `i`, the step is exec of `i` with that move taken
off the schedule. The schedule is the model's own field (notes/assumptions/1.md). -/
def Obligations.StepRunsTheDecodedInstruction : Prop :=
  ∀ (s : State) (h : HostWord) (rest : List Move) (i : Instr),
    s.sched = .host h :: rest → s.resetIn = false → decode h = .ok i →
      step s = exec i { s with sched := rest }

/-- R7, R8: when the next move belongs to another agent, the step is that agent's move; once the schedule has run out the
step is an enabled one of FRX, else EMIT, else LOAD (R9), and with none enabled or reset asserted nothing moves (the model's
choices, notes/assumptions/1.md, 3.md). R290, entry I20 (c): a host access while the reset input is
asserted is a fault of the model; R16: an access of another size than 1, 2 or 4 is refused (notes/assumptions/18.md). -/
def Obligations.StepOfTheOtherMoves : Prop :=
  (∀ (s : State) (m : Move) (rest : List Move),
    s.sched = m :: rest → (∀ h, m ≠ .host h) → step s = .next (agentMove m { s with sched := rest })) ∧
  (∀ s : State, s.sched = [] →
    (enabled .frx s → step s = .next (agentMove .frx s)) ∧
    (¬enabled .frx s → enabled .emit s → step s = .next (agentMove .emit s)) ∧
    (¬enabled .frx s → ¬enabled .emit s → enabled .load s → step s = .next (agentMove .load s)) ∧
    (¬enabled .frx s → ¬enabled .emit s → ¬enabled .load s → step s = .next s)) ∧
  (∀ (s : State) (h : HostWord) (rest : List Move),
    s.sched = .host h :: rest → s.resetIn = true → step s = .fault .accessInReset) ∧
  (∀ (s : State) (a : BusAccess) (rest : List Move),
    s.sched = .host (.bus a) :: rest → s.resetIn = false → a.size ≠ 1 → a.size ≠ 2 → a.size ≠ 4 →
      step s = .refused (.noSuchAccess (.badSize a.size)))

/-- R90, R91, R94: decoding the encoding of a well-formed instruction gives the instruction back. -/
def Obligations.DecodeOfEncodeIsTheInstruction : Prop :=
  ∀ i : Instr, i.wellFormed = true → decode (encode i) = .ok i

/-- R71, R94: every bus access of a legal size decodes to one well-formed instruction, whose encoding is that access. That a
write's data is cut to its size, and a read carries none, is DEDUCED from R75, R132 and the opcode table's field wdata: the
model's reading, notes/assumptions/19.md. -/
def Obligations.EncodeOfDecodeIsTheAccess : Prop :=
  ∀ (dir : Dir) (off : Offset) (size : Size) (d : Word),
    ∃ i, decode (.bus { dir := dir, off := off, size := size.bytes, wdata := d }) = .ok i ∧
      i.wellFormed = true ∧
      encode i = .bus { dir := dir, off := off, size := size.bytes,
                        wdata := if dir = .write then d &&& size.mask else 0#32 }

/-- R91: the opcode map, with the ignored argument bits free. -/
def Obligations.CommandWordsFollowTheOpcodeMap : Prop :=
  ∀ (a : Byte) (n : Half),
    decode (.cmd (n ++ a ++ 0x00#8)) = .ok .nop ∧
    decode (.cmd (n ++ a ++ 0x01#8)) = .ok .srst ∧
    decode (.cmd (n ++ a ++ 0x02#8)) = .ok (.txframe a n) ∧
    decode (.cmd (n ++ a ++ 0x03#8)) = .ok .txabort ∧
    decode (.cmd (n ++ a ++ 0x04#8)) = .ok .rxrelease ∧
    decode (.cmd (n ++ a ++ 0x05#8)) = .ok .resync ∧
    decode (.cmd (n ++ a ++ 0x06#8)) = .ok .rxflush ∧
    decode (.cmd (n ++ a ++ 0x07#8)) = .ok .chkinit ∧
    decode (.cmd (n ++ a ++ 0x08#8)) = .ok (.chkfeed a) ∧
    decode (.cmd (n ++ a ++ 0x09#8)) = .ok (.chkfeedbuf a n) ∧
    (∀ opc : Byte, 0x0A#8 ≤ opc → decode (.cmd (n ++ a ++ opc)) = .ok (.undefined opc))

/-- R71, R95: a few accesses and command words written out from the spec decode to what they stand for. -/
def Obligations.WrittenOutAccessesDecode : Prop :=
  decode (.bus { dir := .write, off := 0x004#12, size := 4, wdata := 0x0000001F#32 }) =
    .ok (.wrCtrl 0#2 .b4 0x0000001F#32) ∧
  decode (.bus { dir := .read, off := 0x030#12, size := 4, wdata := 0#32 }) = .ok (.rdRxchar 0#2 .b4) ∧
  decode (.bus { dir := .read, off := 0x024#12, size := 4, wdata := 0#32 }) = .ok (.rdReg .status 0#2 .b4) ∧
  decode (.bus { dir := .write, off := 0x101#12, size := 1, wdata := 0x00000002#32 }) =
    .ok (.wrTxbuf 0x01#8 .b1 0x00000002#32) ∧
  decode (.cmd 0x00030302#32) = .ok (.txframe 0x03#8 0x0003#16) ∧
  decode (.cmd 0x00090009#32) = .ok (.chkfeedbuf 0x00#8 0x0009#16)

/-! ## Commands -/

/-- R134, R150: a 4-byte aligned write to CMD performs the command its word selects; another size or alignment is BusError
with no effect. Every command but TXFRAME and CHKFEEDBUF, which read TXBUF, completes in every state. -/
def Obligations.CmdWritePerformsTheSelectedCommand : Prop :=
  (∀ (s : State) (w : Word), exec (.wrCmd 0#2 .b4 w) s = exec (decodeCmd w) s) ∧
  (∀ (s : State) (w : Word), w.extractLsb' 0 8 ≠ 0x02#8 → w.extractLsb' 0 8 ≠ 0x09#8 →
    ∃ t, exec (.wrCmd 0#2 .b4 w) s = .next t ∧ t.resp = .done) ∧
  (∀ (s : State) (lo : BitVec 2) (size : Size) (w : Word), ¬(size = .b4 ∧ lo = 0#2) →
    exec (.wrCmd lo size w) s = .next { s with resp := .error (0x020#12 + lo.setWidth 12) })

/-- R151, R161: NOP changes nothing; an undefined opcode sets CMDERR and changes nothing else. Both complete their access. -/
def Obligations.NopAndUndefinedOpcodesAct : Prop :=
  ∀ s : State,
    exec .nop s = .next { s with resp := .done } ∧
    ∀ opc : Byte, exec (.undefined opc) s = .next { s with sticky := s.sticky ||| 0x0100#14, resp := .done }

/-- R152: SRST closes an open block with all effects of close, clears STATUS, RXINFO, ACC and the counters, and keeps
everything else. -/
def Obligations.SoftResetClearsAndKeeps : Prop :=
  ∀ s : State,
    (s.en = true →
      exec .srst s = .next { s with
        ctrl := s.ctrl &&& 0xFFFFFFFE#32, sticky := 0#14, frmCause := 0#4, rxinfo := 0#32, acc := 0#16,
        cntOk := 0#16, cntChk := 0#16, cntFrm := 0#16, cntDisc := 0#16,
        rxfifo := [], gapPend := false, replay := [], oobq := [], fstate := .hunt, escp := false,
        cand := Candidate.cleared, txq := [], txsh := none, txfr := false, resp := .done }) ∧
    (s.en = false →
      exec .srst s = .next { s with
        sticky := 0#14, frmCause := 0#4, rxinfo := 0#32, acc := 0#16,
        cntOk := 0#16, cntChk := 0#16, cntFrm := 0#16, cntDisc := 0#16, resp := .done })

/-- R153: TXFRAME's checks in their order. Closed, a bad payload length or a length value that does not fit is CMDERR;
else a busy transmitter is BUSYERR; else the wire frame of the payload in TXBUF is queued and TXFR set.
A payload byte that nothing has written is the fault of R292 (entry I6); that a refused TXFRAME reads no byte is DEDUCED: the
model's reading, notes/assumptions/10.md. -/
def Obligations.TxframeChecksThenQueues : Prop :=
  ∀ (s : State) (a : Byte) (n : Half),
    let l : Int := (s.ovh : Int) + n.toNat - s.lenAdj
    let bad := s.en = false ∨ n.toNat < 1 ∨ 256 < n.toNat ∨ (0 < s.lenw ∧ (l < 0 ∨ 2 ^ (8 * s.lenw) - 1 < l))
    let busy := s.txq ≠ [] ∨ s.txsh ≠ none ∨ s.txfr = true
    (bad → exec (.txframe a n) s = .next { s with sticky := s.sticky ||| 0x0100#14, resp := .done }) ∧
    (¬bad → busy → exec (.txframe a n) s = .next { s with sticky := s.sticky ||| 0x0200#14, resp := .done }) ∧
    (¬bad → ¬busy → ∀ p : List Byte, p.length = n.toNat → holdsAt s.mem 0x100 p →
      exec (.txframe a n) s = .next { s with txq := s.wireFrame a p, txfr := true, resp := .done }) ∧
    (¬bad → ¬busy → ∀ k, k < n.toNat → s.mem.read (0x100 + k) = none →
      ∃ j, j < n.toNat ∧ s.mem.read (0x100 + j) = none ∧ exec (.txframe a n) s = .fault (.unwrittenByte (0x100 + j)))

/-- R154: TXABORT empties TXQ and ends the frame without TXDONE; the character in TXSH stays. -/
def Obligations.TxabortEmptiesTheQueue : Prop :=
  ∀ s : State, exec .txabort s = .next { s with txq := [], txfr := false, resp := .done }

/-- R155, R156, R157: RXRELEASE, RESYNC and RXFLUSH, with their refusals. -/
def Obligations.ReceiveCommandsActOnTheDecoder : Prop :=
  ∀ s : State,
    (s.fstate = .hold → exec .rxrelease s = .next { s with fstate := .hunt, resp := .done }) ∧
    (s.fstate ≠ .hold →
      exec .rxrelease s = .next { s with sticky := s.sticky ||| 0x0100#14, resp := .done }) ∧
    (s.fstate = .hold → exec .resync s = .next { s with sticky := s.sticky ||| 0x0100#14, resp := .done }) ∧
    (s.fstate ≠ .hold →
      exec .resync s = .next { s with fstate := .hunt, escp := false, cand := Candidate.cleared, resp := .done }) ∧
    exec .rxflush s = .next { s with
      rxfifo := [], gapPend := false, replay := [], oobq := [], fstate := .hunt, escp := false,
      cand := Candidate.cleared, resp := .done }

/-- R158, R159, R160 with R171 to R173: the checksum commands act on ACC alone. CHKFEEDBUF over a byte that nothing has written
is the fault of R292 (entry I6); that a range that leaves TXBUF is refused before any byte is read, written or not, is DEDUCED:
the model's reading, notes/assumptions/10.md. -/
def Obligations.ChecksumCommandsActOnAcc : Prop :=
  (∀ s : State, exec .chkinit s = .next { s with
    acc := if s.prof0.getLsbD 5 then s.crc0.extractLsb' 16 16 else (s.prof2.extractLsb' 8 8).setWidth 16,
    resp := .done }) ∧
  (∀ (s : State) (d : Byte), s.prof0.getLsbD 5 = false →
    exec (.chkfeed d) s = .next { s with acc := s.acc ^^^ d.setWidth 16, resp := .done }) ∧
  (∀ (s : State) (d : Byte), s.prof0.getLsbD 5 = true →
    exec (.chkfeed d) s = .next { s with acc := s.updateCrc s.acc d, resp := .done }) ∧
  (∀ (s : State) (start : Byte) (n : Half), 256 < start.toNat + n.toNat →
    exec (.chkfeedbuf start n) s = .next { s with sticky := s.sticky ||| 0x0100#14, resp := .done }) ∧
  (∀ (s : State) (start : Byte) (n : Half) (p : List Byte), start.toNat + n.toNat ≤ 256 → p.length = n.toNat →
    holdsAt s.mem (0x100 + start.toNat) p →
    exec (.chkfeedbuf start n) s = .next { s with acc := p.foldl s.update s.acc, resp := .done }) ∧
  (∀ (s : State) (start : Byte) (n : Half) (k : Nat), start.toNat + n.toNat ≤ 256 → k < n.toNat →
    s.mem.read (0x100 + start.toNat + k) = none →
    ∃ j, j < n.toNat ∧ s.mem.read (0x100 + start.toNat + j) = none ∧
      exec (.chkfeedbuf start n) s = .fault (.unwrittenByte (0x100 + start.toNat + j)))

/-! ## Register accesses -/

/-- R120, R76, R77: a plain read returns the register's value and changes nothing else; a bad size or alignment is BusError. -/
def Obligations.PlainReadsReturnTheirRegister : Prop :=
  (∀ s : State,
    exec (.rdReg .id 0#2 .b4) s = .next { s with resp := .data 0x53464501#32 } ∧
    exec (.rdReg .ctrl 0#2 .b4) s = .next { s with resp := .data s.ctrl } ∧
    exec (.rdReg .line 0#2 .b4) s = .next { s with resp := .data s.line } ∧
    exec (.rdReg .prof0 0#2 .b4) s = .next { s with resp := .data s.prof0 } ∧
    exec (.rdReg .prof1 0#2 .b4) s = .next { s with resp := .data s.prof1 } ∧
    exec (.rdReg .prof2 0#2 .b4) s = .next { s with resp := .data s.prof2 } ∧
    exec (.rdReg .crc0 0#2 .b4) s = .next { s with resp := .data s.crc0 } ∧
    exec (.rdReg .crc1 0#2 .b4) s = .next { s with resp := .data s.crc1 } ∧
    exec (.rdReg .cmd 0#2 .b4) s = .next { s with resp := .data 0#32 } ∧
    exec (.rdReg .status 0#2 .b4) s = .next { s with resp := .data s.statusWord } ∧
    exec (.rdReg .ien 0#2 .b4) s = .next { s with resp := .data s.ien } ∧
    exec (.rdReg .txchar 0#2 .b4) s = .next { s with resp := .data 0#32 } ∧
    exec (.rdReg .rxinfo 0#2 .b4) s = .next { s with resp := .data s.rxinfo } ∧
    exec (.rdReg .chkacc 0#2 .b4) s = .next { s with resp := .data (s.acc ++ s.final s.acc) } ∧
    exec (.rdReg .cntok 0#2 .b4) s = .next { s with resp := .data (0#16 ++ s.cntOk) } ∧
    exec (.rdReg .cntchk 0#2 .b4) s = .next { s with resp := .data (0#16 ++ s.cntChk) } ∧
    exec (.rdReg .cntfrm 0#2 .b4) s = .next { s with resp := .data (0#16 ++ s.cntFrm) } ∧
    exec (.rdReg .cntdisc 0#2 .b4) s = .next { s with resp := .data (0#16 ++ s.cntDisc) } ∧
    exec (.rdReg .fifostat 0#2 .b4) s = .next { s with resp := .data s.fifostatWord } ∧
    exec (.rdReg .rxto 0#2 .b4) s = .next { s with resp := .data s.rxto } ∧
    ∀ k, exec (.rdReg (.reserved k) 0#2 .b4) s = .next { s with resp := .data 0#32 }) ∧
  (∀ (s : State) (r : Reg) (lo : BitVec 2) (size : Size), ¬(size = .b4 ∧ lo = 0#2) →
    exec (.rdReg r lo size) s = .next { s with resp := .error (r.offset lo) })

/-- R32, R33, R34, R42: every bit of the STATUS word, and the FIFOSTAT word, whose levels are whole because the FIFOs keep
their depths. -/
def Obligations.StatusAndFifostatShowTheState : Prop :=
  (∀ s : State,
    (∀ i, i < 14 → s.statusWord.getLsbD i = s.sticky.getLsbD i) ∧
    s.statusWord.getLsbD 14 = false ∧ s.statusWord.getLsbD 15 = false ∧
    (s.statusWord.getLsbD 16 = true ↔ s.fstate = .hold) ∧
    (s.statusWord.getLsbD 17 = true ↔ s.fstate ≠ .hunt ∧ s.fstate ≠ .hold) ∧
    (s.statusWord.getLsbD 18 = true ↔ 0 < s.rxfifo.length) ∧
    (s.statusWord.getLsbD 19 = true ↔ 0 < s.oobq.length) ∧
    (s.statusWord.getLsbD 20 = true ↔ 0 < s.txq.length ∨ s.txsh ≠ none) ∧
    (s.statusWord.getLsbD 21 = s.txfr) ∧
    (s.statusWord.getLsbD 22 = true ↔ s.txfr = true ∨ 16 ≤ s.txq.length) ∧
    s.statusWord.getLsbD 23 = false ∧
    (∀ i, i < 4 → s.statusWord.getLsbD (24 + i) = s.frmCause.getLsbD i) ∧
    (∀ i, 28 ≤ i → s.statusWord.getLsbD i = false)) ∧
  (∀ s : State, DepthsOk s →
    s.fifostatWord.toNat =
      s.rxfifo.length + 2 ^ 8 * min s.txq.length 255 + 2 ^ 16 * s.oobq.length)

/-- R121: the six locked registers. Closed, the masked data is stored; open, CFGERR and no other change; a bad size or
alignment is BusError. -/
def Obligations.LockedRegistersChangeOnlyWhileClosed : Prop :=
  (∀ (s : State) (d : Word), s.en = false →
    exec (.wrLine 0#2 .b4 d) s = .next { s with line := d &&& 0x0007FFFF#32, resp := .done } ∧
    exec (.wrProf0 0#2 .b4 d) s = .next { s with prof0 := d &&& 0x000007FF#32, resp := .done } ∧
    exec (.wrProf1 0#2 .b4 d) s = .next { s with prof1 := d, resp := .done } ∧
    exec (.wrProf2 0#2 .b4 d) s = .next { s with prof2 := d &&& 0x01FFFFFF#32, resp := .done } ∧
    exec (.wrCrc0 0#2 .b4 d) s = .next { s with crc0 := d, resp := .done } ∧
    exec (.wrCrc1 0#2 .b4 d) s = .next { s with crc1 := d &&& 0x0003FFFF#32, resp := .done }) ∧
  (∀ (s : State) (d : Word), s.en = true →
    exec (.wrLine 0#2 .b4 d) s = .next { s with sticky := s.sticky ||| 0x0400#14, resp := .done } ∧
    exec (.wrProf0 0#2 .b4 d) s = .next { s with sticky := s.sticky ||| 0x0400#14, resp := .done } ∧
    exec (.wrProf1 0#2 .b4 d) s = .next { s with sticky := s.sticky ||| 0x0400#14, resp := .done } ∧
    exec (.wrProf2 0#2 .b4 d) s = .next { s with sticky := s.sticky ||| 0x0400#14, resp := .done } ∧
    exec (.wrCrc0 0#2 .b4 d) s = .next { s with sticky := s.sticky ||| 0x0400#14, resp := .done } ∧
    exec (.wrCrc1 0#2 .b4 d) s = .next { s with sticky := s.sticky ||| 0x0400#14, resp := .done }) ∧
  (∀ (s : State) (lo : BitVec 2) (size : Size) (d : Word), ¬(size = .b4 ∧ lo = 0#2) →
    exec (.wrLine lo size d) s = .next { s with resp := .error (0x008#12 + lo.setWidth 12) } ∧
    exec (.wrProf0 lo size d) s = .next { s with resp := .error (0x00C#12 + lo.setWidth 12) } ∧
    exec (.wrProf1 lo size d) s = .next { s with resp := .error (0x010#12 + lo.setWidth 12) } ∧
    exec (.wrProf2 lo size d) s = .next { s with resp := .error (0x014#12 + lo.setWidth 12) } ∧
    exec (.wrCrc0 lo size d) s = .next { s with resp := .error (0x018#12 + lo.setWidth 12) } ∧
    exec (.wrCrc1 lo size d) s = .next { s with resp := .error (0x01C#12 + lo.setWidth 12) })

/-- R30: LEGAL is exactly the conditions L1 to L8. -/
def Obligations.LegalIsTheEightConditions : Prop :=
  ∀ s : State, s.legal = true ↔
    s.line.extractLsb' 0 16 ≠ 0#16 ∧
    s.line.extractLsb' 16 2 ≠ 3#2 ∧
    s.prof0.extractLsb' 2 2 ≠ 3#2 ∧
    (s.prof0.extractLsb' 2 2 = 0#2 → s.prof0.getLsbD 9 = true) ∧
    (s.prof0.getLsbD 9 = true → s.prof0.getLsbD 8 = true) ∧
    (s.prof0.getLsbD 8 = true ∧ s.nsync = 2 → s.sync0 = s.esc ∧ s.sync1 ≠ s.esc) ∧
    (s.prof0.getLsbD 8 = true ∧ s.nsync = 1 → s.sync0 ≠ s.esc) ∧
    (s.prof0.getLsbD 9 = true → s.etxb ≠ s.esc ∧ s.etxb ≠ s.syncSeq.getD (s.nsync - 1) 0#8)

/-- R122, R123, R124: a CTRL write stores its fields, keeps FRMEN and LOOP with CFGERR when a write would change them
while open, opens only a legal configuration, and closes with everything in flight dropped. -/
def Obligations.CtrlWriteStoresOpensAndCloses : Prop :=
  (∀ (s : State) (w : Word), s.en = false → w.getLsbD 0 = false →
    exec (.wrCtrl 0#2 .b4 w) s = .next { s with ctrl := w &&& 0x7E#32, resp := .done }) ∧
  (∀ (s : State) (w : Word), s.en = false → w.getLsbD 0 = true → s.legal = true →
    exec (.wrCtrl 0#2 .b4 w) s = .next { s with ctrl := w &&& 0x7F#32, resp := .done }) ∧
  (∀ (s : State) (w : Word), s.en = false → w.getLsbD 0 = true → s.legal = false →
    exec (.wrCtrl 0#2 .b4 w) s =
      .next { s with ctrl := w &&& 0x7E#32, sticky := s.sticky ||| 0x0400#14, resp := .done }) ∧
  (∀ (s : State) (w : Word), s.en = true →
    let lockedChange := w.getLsbD 3 ≠ s.ctrl.getLsbD 3 ∨ w.getLsbD 4 ≠ s.ctrl.getLsbD 4
    ∃ t, exec (.wrCtrl 0#2 .b4 w) s = .next t ∧
      (∀ i, t.ctrl.getLsbD i =
        if i = 3 ∨ i = 4 then s.ctrl.getLsbD i else if i < 7 then w.getLsbD i else false) ∧
      (lockedChange → t.sticky = s.sticky ||| 0x0400#14) ∧ (¬lockedChange → t.sticky = s.sticky) ∧
      (w.getLsbD 0 = true → t = { s with ctrl := t.ctrl, sticky := t.sticky, resp := .done }) ∧
      (w.getLsbD 0 = false → t = { s with
        ctrl := t.ctrl, sticky := t.sticky, rxfifo := [], gapPend := false, replay := [], oobq := [],
        fstate := .hunt, escp := false, cand := Candidate.cleared, txq := [], txsh := none, txfr := false,
        resp := .done })) ∧
  (∀ (s : State) (lo : BitVec 2) (size : Size) (w : Word), ¬(size = .b4 ∧ lo = 0#2) →
    exec (.wrCtrl lo size w) s = .next { s with resp := .error (0x004#12 + lo.setWidth 12) })

/-- R125, R126, R130, R131: IEN, RXTO, the write-1-to-clear of STATUS, the load of ACC through CHKACC, and the counters,
which a write of any value clears. -/
def Obligations.UnlockedWritesStoreOrClear : Prop :=
  (∀ (s : State) (w : Word),
    exec (.wrIen 0#2 .b4 w) s = .next { s with ien := w &&& 0x001C3FFF#32, resp := .done } ∧
    exec (.wrRxto 0#2 .b4 w) s = .next { s with rxto := w &&& 0x0000FFFF#32, resp := .done } ∧
    ∃ t, exec (.wrStatus 0#2 .b4 w) s = .next t ∧ t = { s with sticky := t.sticky, resp := .done } ∧
      ∀ i, i < 14 → t.sticky.getLsbD i = (s.sticky.getLsbD i && !w.getLsbD i)) ∧
  (∀ (s : State) (lo : BitVec 2) (size : Size) (w : Word), ¬(size = .b4 ∧ lo = 0#2) →
    exec (.wrIen lo size w) s = .next { s with resp := .error (0x028#12 + lo.setWidth 12) } ∧
    exec (.wrRxto lo size w) s = .next { s with resp := .error (0x054#12 + lo.setWidth 12) } ∧
    exec (.wrStatus lo size w) s = .next { s with resp := .error (0x024#12 + lo.setWidth 12) }) ∧
  (∀ (s : State) (w : Word),
    exec (.wrChkacc 0#2 .b4 w) s = .next { s with acc := w.extractLsb' 0 16, resp := .done } ∧
    exec (.wrCntok 0#2 .b4 w) s = .next { s with cntOk := 0#16, resp := .done } ∧
    exec (.wrCntchk 0#2 .b4 w) s = .next { s with cntChk := 0#16, resp := .done } ∧
    exec (.wrCntfrm 0#2 .b4 w) s = .next { s with cntFrm := 0#16, resp := .done } ∧
    exec (.wrCntdisc 0#2 .b4 w) s = .next { s with cntDisc := 0#16, resp := .done }) ∧
  (∀ (s : State) (lo : BitVec 2) (size : Size) (w : Word), ¬(size = .b4 ∧ lo = 0#2) →
    exec (.wrChkacc lo size w) s = .next { s with resp := .error (0x03C#12 + lo.setWidth 12) } ∧
    exec (.wrCntok lo size w) s = .next { s with resp := .error (0x040#12 + lo.setWidth 12) } ∧
    exec (.wrCntchk lo size w) s = .next { s with resp := .error (0x044#12 + lo.setWidth 12) } ∧
    exec (.wrCntfrm lo size w) s = .next { s with resp := .error (0x048#12 + lo.setWidth 12) } ∧
    exec (.wrCntdisc lo size w) s = .next { s with resp := .error (0x04C#12 + lo.setWidth 12) })

/-- R127: a TXCHAR write is refused with CMDERR while closed, with BUSYERR during a frame or when 16 characters wait, and
else queues bits 7:0. -/
def Obligations.TxcharWriteQueuesOneCharacter : Prop :=
  (∀ (s : State) (w : Word), s.en = false →
    exec (.wrTxchar 0#2 .b4 w) s = .next { s with sticky := s.sticky ||| 0x0100#14, resp := .done }) ∧
  (∀ (s : State) (w : Word), s.en = true → s.txfr = true ∨ 16 ≤ s.txq.length →
    exec (.wrTxchar 0#2 .b4 w) s = .next { s with sticky := s.sticky ||| 0x0200#14, resp := .done }) ∧
  (∀ (s : State) (w : Word), s.en = true → s.txfr = false → s.txq.length < 16 →
    exec (.wrTxchar 0#2 .b4 w) s = .next { s with txq := s.txq ++ [w.extractLsb' 0 8], resp := .done }) ∧
  (∀ (s : State) (lo : BitVec 2) (size : Size) (w : Word), ¬(size = .b4 ∧ lo = 0#2) →
    exec (.wrTxchar lo size w) s = .next { s with resp := .error (0x02C#12 + lo.setWidth 12) })

/-- R128: an RXCHAR read pops RXFIFO in raw mode and shows the entry with its flags; in frame mode or with RXFIFO empty it
returns 0 and pops nothing. -/
def Obligations.RxcharReadPopsInRawMode : Prop :=
  (∀ s : State, s.frmen = true ∨ s.rxfifo = [] →
    exec (.rdRxchar 0#2 .b4) s = .next { s with resp := .data 0#32 }) ∧
  (∀ (s : State) (e : Entry) (rest : List Entry), s.frmen = false → s.rxfifo = e :: rest →
    ∃ v : Word, exec (.rdRxchar 0#2 .b4) s = .next { s with rxfifo := rest, resp := .data v } ∧
      v.extractLsb' 0 8 = e.b ∧ v.getLsbD 8 = e.pe ∧ v.getLsbD 9 = e.se ∧ v.getLsbD 10 = e.brk ∧
      v.getLsbD 11 = e.gap ∧ v.extractLsb' 12 19 = 0#19 ∧ v.getLsbD 31 = true) ∧
  (∀ (s : State) (lo : BitVec 2) (size : Size), ¬(size = .b4 ∧ lo = 0#2) →
    exec (.rdRxchar lo size) s = .next { s with resp := .error (0x030#12 + lo.setWidth 12) })

/-- R129: an OOB read pops OOBQ and shows the record; with OOBQ empty it returns 0. -/
def Obligations.OobReadPopsTheOldestRecord : Prop :=
  (∀ s : State, s.oobq = [] → exec (.rdOob 0#2 .b4) s = .next { s with resp := .data 0#32 }) ∧
  (∀ (s : State) (r : OobRec) (rest : List OobRec), s.oobq = r :: rest →
    ∃ v : Word, exec (.rdOob 0#2 .b4) s = .next { s with oobq := rest, resp := .data v } ∧
      v.extractLsb' 0 8 = r.byte ∧ v.getLsbD 8 = r.escd ∧ v.extractLsb' 9 22 = 0#22 ∧ v.getLsbD 31 = true) ∧
  (∀ (s : State) (lo : BitVec 2) (size : Size), ¬(size = .b4 ∧ lo = 0#2) →
    exec (.rdOob lo size) s = .next { s with resp := .error (0x038#12 + lo.setWidth 12) })

/-- R76, R77: writes to read-only registers, to RXBUF and to reserved offsets complete and change nothing; reserved reads
from 0x300 on return 0 at every size and alignment (R73). -/
def Obligations.ReadOnlyAndReservedAccessesHaveNoEffect : Prop :=
  (∀ (s : State) (r : Reg) (d : Word), exec (.wrRo r 0#2 .b4 d) s = .next { s with resp := .done }) ∧
  (∀ (s : State) (r : Reg) (lo : BitVec 2) (size : Size) (d : Word), ¬(size = .b4 ∧ lo = 0#2) →
    exec (.wrRo r lo size d) s = .next { s with resp := .error (r.offset lo) }) ∧
  (∀ (s : State) (off : Offset) (size : Size) (d : Word), 0x300#12 ≤ off →
    exec (.wrReserved off size d) s = .next { s with resp := .done } ∧
    exec (.rdReservedHigh off size) s = .next { s with resp := .data 0#32 }) ∧
  (∀ (s : State) (off : Offset) (d : Word), 0x058#12 ≤ off → off < 0x100#12 → off.toNat % 4 = 0 →
    exec (.wrReserved off .b4 d) s = .next { s with resp := .done }) ∧
  (∀ (s : State) (off : Offset) (size : Size) (d : Word), 0x058#12 ≤ off → off < 0x100#12 →
    ¬(size = .b4 ∧ off.toNat % 4 = 0) →
    exec (.wrReserved off size d) s = .next { s with resp := .error off }) ∧
  (∀ (s : State) (i : Byte) (size : Size) (d : Word), i.toNat % size.bytes = 0 →
    exec (.wrRxbuf i size d) s = .next { s with resp := .done }) ∧
  (∀ (s : State) (i : Byte) (size : Size) (d : Word), i.toNat % size.bytes ≠ 0 →
    exec (.wrRxbuf i size d) s = .next { s with resp := .error (0x200#12 + i.setWidth 12) })

/-! ## Buffers -/

/-- R75, R132: an aligned TXBUF write stores its bytes in little-endian order; every other byte of memory reads as before.
A misaligned one is BusError. -/
def Obligations.TxbufWriteStoresLittleEndianBytes : Prop :=
  (∀ (s : State) (i : Byte) (size : Size) (d : Word), i.toNat % size.bytes = 0 →
    ∃ t, exec (.wrTxbuf i size d) s = .next t ∧ t = { s with mem := t.mem, resp := .done } ∧
      (∀ k, k < size.bytes → t.mem.read (0x100 + i.toNat + k) = some (d.extractLsb' (8 * k) 8)) ∧
      (∀ a, a < 0x100 + i.toNat ∨ 0x100 + i.toNat + size.bytes ≤ a → t.mem.read a = s.mem.read a)) ∧
  (∀ (s : State) (i : Byte) (size : Size) (d : Word), i.toNat % size.bytes ≠ 0 →
    exec (.wrTxbuf i size d) s = .next { s with resp := .error (0x100#12 + i.setWidth 12) })

/-- R75, R132, R133: an aligned buffer read returns its bytes, the lowest offset in bits 7:0, zero-extended, and changes
nothing else; a misaligned one is BusError; a byte that nothing has written is the fault of R292. -/
def Obligations.BufferReadsAreLittleEndian : Prop :=
  (∀ (s : State) (i : Byte) (size : Size) (p : List Byte), i.toNat % size.bytes = 0 → p.length = size.bytes →
    (holdsAt s.mem (0x100 + i.toNat) p →
      ∃ v : Word, exec (.rdTxbuf i size) s = .next { s with resp := .data v } ∧
        ∀ k, k < 4 → v.extractLsb' (8 * k) 8 = p.getD k 0#8) ∧
    (holdsAt s.mem (0x200 + i.toNat) p →
      ∃ v : Word, exec (.rdRxbuf i size) s = .next { s with resp := .data v } ∧
        ∀ k, k < 4 → v.extractLsb' (8 * k) 8 = p.getD k 0#8)) ∧
  (∀ (s : State) (i : Byte) (size : Size), i.toNat % size.bytes ≠ 0 →
    exec (.rdTxbuf i size) s = .next { s with resp := .error (0x100#12 + i.setWidth 12) } ∧
    exec (.rdRxbuf i size) s = .next { s with resp := .error (0x200#12 + i.setWidth 12) }) ∧
  (∀ (s : State) (i : Byte) (size : Size) (k : Nat), i.toNat % size.bytes = 0 → k < size.bytes →
    (s.mem.read (0x100 + i.toNat + k) = none → ∃ j, j < size.bytes ∧ s.mem.read (0x100 + i.toNat + j) = none ∧
      exec (.rdTxbuf i size) s = .fault (.unwrittenByte (0x100 + i.toNat + j))) ∧
    (s.mem.read (0x200 + i.toNat + k) = none → ∃ j, j < size.bytes ∧ s.mem.read (0x200 + i.toNat + j) = none ∧
      exec (.rdRxbuf i size) s = .fault (.unwrittenByte (0x200 + i.toNat + j))))

/-- R75: accesses of different widths overlap as the little-endian formulas say. After a 4-byte write of `d` to TXBUF, each
aligned read inside it returns the part of `d` at its place. -/
def Obligations.TxbufReadsSeeOverlappingWrites : Prop :=
  ∀ (s t : State) (i j : Byte) (size : Size) (d : Word),
    exec (.wrTxbuf i .b4 d) s = .next t → i.toNat % 4 = 0 → i.toNat ≤ j.toNat →
    j.toNat + size.bytes ≤ i.toNat + 4 → j.toNat % size.bytes = 0 →
      answers (exec (.rdTxbuf j size) t) ((d >>> (8 * (j.toNat - i.toNat))) &&& size.mask)

/-- R72, R73, R260: an access ends in BusError exactly when it is a register-region access that is not 4 bytes at a
multiple of 4, or a misaligned buffer access; and then it changes nothing (R74). -/
def Obligations.BusErrorExactlyOnBadSizeOrAlignment : Prop :=
  ∀ (dir : Dir) (off : Offset) (size : Size) (d : Word) (s : State),
    let bad := (off.toNat < 0x100 ∧ ¬(size = .b4 ∧ off.toNat % 4 = 0)) ∨
      (0x100 ≤ off.toNat ∧ off.toNat < 0x300 ∧ off.toNat % size.bytes ≠ 0)
    (bad → exec (decodeAccess dir off size d) s = .next { s with resp := .error off }) ∧
    (¬bad → ∀ t e, exec (decodeAccess dir off size d) s = .next t → t.resp ≠ .error e)

/-! ## What no access does -/

/-- R17, R270, R292: no access is ever refused by the model, and the only stop of one is a read of a byte nothing has written,
one of the bytes that the instruction reads. -/
def Obligations.AccessesStopOnlyOnUnwrittenBytes : Prop :=
  ∀ (i : Instr) (s : State),
    (∃ t, exec i s = .next t) ∨ (∃ off, exec i s = .fault (.unwrittenByte off) ∧ readsByte i off ∧ s.mem.read off = none)

/-- R44, R57: a host access never changes LINEOUT, the schedule or the reset input, and changes no byte of memory but those
an aligned WR.TXBUF stores. -/
def Obligations.AccessesKeepLineoutAndOtherMemory : Prop :=
  ∀ (i : Instr) (s t : State), exec i s = .next t →
    t.lineOut = s.lineOut ∧ t.sched = s.sched ∧ t.resetIn = s.resetIn ∧
    (∀ a, (∀ j size d, i = .wrTxbuf j size d → j.toNat % size.bytes = 0 →
        a < 0x100 + j.toNat ∨ 0x100 + j.toNat + size.bytes ≤ a) →
      t.mem.read a = s.mem.read a)

/-- R60, R121, R124: while the block is open no access changes a locked register or CTRL.FRMEN or CTRL.LOOP. -/
def Obligations.OpenBlockKeepsItsConfiguration : Prop :=
  ∀ (i : Instr) (s t : State), s.en = true → exec i s = .next t →
    t.line = s.line ∧ t.prof0 = s.prof0 ∧ t.prof1 = s.prof1 ∧ t.prof2 = s.prof2 ∧ t.crc0 = s.crc0 ∧
    t.crc1 = s.crc1 ∧ t.frmen = s.frmen ∧ t.loop = s.loop

/-- R83: a step of LINE, TXU, FRX or RXT never writes CTRL, IEN, a configuration register, RXTO, ACC, TXBUF or the answer to
the host, and never clears a STATUS bit. -/
def Obligations.InternalAgentsKeepHostRegisters : Prop :=
  ∀ (m : Move) (s : State), m ≠ .releaseReset →
    let t := agentMove m s
    t.ctrl = s.ctrl ∧ t.ien = s.ien ∧ t.line = s.line ∧ t.prof0 = s.prof0 ∧ t.prof1 = s.prof1 ∧
    t.prof2 = s.prof2 ∧ t.crc0 = s.crc0 ∧ t.crc1 = s.crc1 ∧ t.rxto = s.rxto ∧ t.acc = s.acc ∧ t.resp = s.resp ∧
    (∀ a, a < 0x200 → t.mem.read a = s.mem.read a) ∧
    s.sticky &&& t.sticky = s.sticky

/-- R180: the frame engines neither read nor write ACC: with another ACC every agent's move and TXFRAME do the same. -/
def Obligations.FrameEnginesIgnoreAcc : Prop :=
  (∀ (m : Move) (s : State) (x : Half), m ≠ .releaseReset →
    agentMove m { s with acc := x } = { agentMove m s with acc := x }) ∧
  (∀ (a : Byte) (n : Half) (s t : State) (x : Half), exec (.txframe a n) s = .next t →
    exec (.txframe a n) { s with acc := x } = .next { t with acc := x })

/-! ## Checksum -/

/-- R171 to R175: the check values of the bytes 31 to 39 that 42_checksum.md section 5 lists. -/
def Obligations.CheckValuesOfTheReferenceTable : Prop :=
  let bs : List Byte := [0x31, 0x32, 0x33, 0x34, 0x35, 0x36, 0x37, 0x38, 0x39]
  let s := State.reset
  s.checksum bs = 0x2189#16 ∧
  { s with crc1 := 0x00000000#32 }.checksum bs = 0x31C3#16 ∧
  { s with crc0 := 0xFFFF1021#32, crc1 := 0x00000000#32 }.checksum bs = 0x29B1#16 ∧
  { s with crc0 := 0xFFFF1021#32, crc1 := 0x0003FFFF#32 }.checksum bs = 0x906E#16 ∧
  { s with crc0 := 0x00008005#32 }.checksum bs = 0xBB3D#16 ∧
  { s with crc0 := 0xFFFF8005#32 }.checksum bs = 0x4B37#16 ∧
  { s with prof0 := 0x00000004#32 }.checksum bs = 0x0031#16 ∧
  { s with prof0 := 0x00000004#32, prof2 := 0x0015FF00#32 }.checksum bs = 0x00CE#16

/-- R175: CHKINIT and then CHKFEED for each byte leaves in CHKACC bits 15:0 the checksum the frame engine computes. -/
def Obligations.FedBytesGiveTheFrameChecksum : Prop :=
  ∀ (s : State) (bs : List Byte),
    ∃ t u, exec .chkinit s = .next t ∧ feedAll bs t = .next u ∧
      ∃ v : Word, answers (exec (.rdReg .chkacc 0#2 .b4) u) v ∧ v.extractLsb' 0 16 = s.checksum bs

/-- R179 (a), (b): a changed byte of the range, in particular one flipped bit, always changes the checksum, under XOR-8 and
under every CRC-16 whose polynomial has its x^0 coefficient. -/
def Obligations.OneChangedByteChangesTheChecksum : Prop :=
  ∀ (s : State) (before after : List Byte) (b c : Byte),
    s.crcAlg = false ∨ s.poly.getLsbD 0 = true → b ≠ c →
      s.checksum (before ++ [b] ++ after) ≠ s.checksum (before ++ [c] ++ after)

/-! ## Frame encoder and transmitter -/

/-- R110, R190: the logical frame is OVH + |P| bytes in the order sync, address, length, payload, end marker, checksum; the
length field holds `L = N - LENADJ` where it fits (R111), and the checksum field holds the checksum of the range in the byte
order of CHKBE (R116), which the receiver's CHKVAL reads back. The unstuffed wire frame is the logical frame; the stuffed one
has ESC before every byte of ESCSET outside the sync sequence and the end marker (R112, R113). -/
def Obligations.LogicalFrameHasItsFieldsAndLength : Prop :=
  ∀ (s : State) (a : Byte) (p : List Byte), s.lenw ≤ 2 →
    ∃ addr len trl chk : List Byte,
      s.logical a p = s.syncSeq ++ addr ++ len ++ p ++ trl ++ chk ∧
      s.syncSeq.length = s.nsync ∧
      s.syncSeq = (if s.nsync = 1 then [s.sync0] else [s.sync0, s.sync1]) ∧
      addr = (if s.hasAddr then [a] else []) ∧
      len.length = s.lenw ∧
      (let l : Int := (s.ovh : Int) + p.length - s.lenAdj
       0 ≤ l → l ≤ 2 ^ (8 * s.lenw) - 1 →
        (s.lenw = 1 → ((len.getD 0 0#8).toNat : Int) = l) ∧
        (s.lenw = 2 → s.lenbe = false → ((len.getD 0 0#8).toNat + 256 * (len.getD 1 0#8).toNat : Int) = l) ∧
        (s.lenw = 2 → s.lenbe = true → (256 * (len.getD 0 0#8).toNat + (len.getD 1 0#8).toNat : Int) = l)) ∧
      trl = (if s.endmk then [s.esc, s.etxb] else []) ∧
      chk.length = s.chkw ∧
      (let c := s.checksum ((if s.chkFrom then [] else s.syncSeq) ++ addr ++ len ++ p ++
        (if s.endmk && s.chkTrl then [s.etxb] else []))
       s.chkVal chk = c ∧
       (s.crcAlg = false → chk = [c.extractLsb' 0 8]) ∧
       (s.crcAlg = true → s.chkbe = false → chk = [c.extractLsb' 0 8, c.extractLsb' 8 8]) ∧
       (s.crcAlg = true → s.chkbe = true → chk = [c.extractLsb' 8 8, c.extractLsb' 0 8])) ∧
      (s.logical a p).length = s.ovh + p.length ∧
      (s.stuffed = false → s.wireFrame a p = s.logical a p) ∧
      (s.stuffed = true → s.wireFrame a p = s.syncSeq ++ s.stuff (addr ++ len ++ p) ++ trl ++ s.stuff chk) ∧
      s.stuff [] = [] ∧
      (∀ (v : Byte) (rest : List Byte),
        s.stuff (v :: rest) =
          (if v = s.esc ∨ (s.nsync = 1 ∧ v = s.sync0) then [s.esc, v] else [v]) ++ s.stuff rest)

/-- R112: no wire form of a payload of at most 256 bytes is longer than 526 bytes. -/
def Obligations.WireFrameFitsTheQueue : Prop :=
  ∀ (s : State) (a : Byte) (p : List Byte), p.length ≤ 256 → (s.wireFrame a p).length ≤ 526

/-- R195, R198, R199, R200: LOAD and EMIT where they are enabled, and no step where they are not (for a move that is not
enabled: notes/assumptions/4.md). -/
def Obligations.LoadAndEmitMoveOneCharacter : Prop :=
  (∀ (s : State) (b : Byte) (rest : List Byte), s.resetIn = false → s.en = true → s.txen = true → s.txsh = none →
    s.txq = b :: rest → agentMove .load s = { s with txsh := some b, txq := rest }) ∧
  (∀ s : State, s.en = false ∨ s.txen = false ∨ s.txsh ≠ none ∨ s.txq = [] → agentMove .load s = s) ∧
  (∀ (s : State) (b : Byte), s.resetIn = false → s.en = true → s.txsh = some b → s.loop = false →
    s.txfr = true ∧ s.txq = [] →
    agentMove .emit s = { s with
      txsh := none, lineOut := s.lineOut ++ [b], txfr := false, sticky := s.sticky ||| 0x0008#14 }) ∧
  (∀ (s : State) (b : Byte), s.resetIn = false → s.en = true → s.txsh = some b → s.loop = false →
    ¬(s.txfr = true ∧ s.txq = []) →
    agentMove .emit s = { s with txsh := none, lineOut := s.lineOut ++ [b] }) ∧
  (∀ (s : State) (b : Byte), s.resetIn = false → s.en = true → s.txsh = some b → s.loop = true →
    let u := { s with txsh := none }.arrive { b := b, pe := false, se := false, brk := false, gap := false } .loopback
    (s.txfr = true ∧ s.txq = [] →
      agentMove .emit s = { u with txfr := false, sticky := u.sticky ||| 0x0008#14 }) ∧
    (¬(s.txfr = true ∧ s.txq = []) → agentMove .emit s = u)) ∧
  (∀ s : State, s.en = false ∨ s.txsh = none → agentMove .emit s = s)

/-- R195 to R199: a queued frame of an open, unpaused transmitter. First, in the schedule LOAD, EMIT, LOAD, EMIT, ... with no
other move between and no loopback, it is sent in order in two steps a character, and TXDONE is signalled. Second, whatever
moves of LINE, TXU, FRX and RXT are scheduled, the machine reaches a state in which the frame has been sent completely, in
order, TXDONE is signalled, and nothing is left to send; in loopback nothing is appended to LINEOUT (R200). Both rest on the
model's schedule and on its own moves after it (notes/assumptions/1.md, 3.md). -/
def Obligations.QueuedFrameIsSentInOrder : Prop :=
  (∀ (s : State), s.resetIn = false → s.en = true → s.txen = true → s.loop = false → s.txfr = true →
    s.txsh = none → s.txq ≠ [] →
      runs (2 * s.txq.length) { s with sched := sendChars s.txq.length }
        { s with sched := [], txq := [], txfr := false, lineOut := s.lineOut ++ s.txq,
                 sticky := s.sticky ||| 0x0008#14 }) ∧
  (∀ (s : State) (ms : List Move), Inv s → s.resetIn = false → s.en = true → s.txen = true → s.txfr = true →
    (∀ m ∈ ms, ofAgent m = true) →
      ∃ n t, runs n { s with sched := ms } t ∧ t.txfr = false ∧ t.txq = [] ∧ t.txsh = none ∧
        t.sticky.getLsbD 3 = true ∧
        t.lineOut = (if s.loop then s.lineOut else s.lineOut ++ s.txsh.toList ++ s.txq))

/-! ## Receiver and decoder -/

/-- R107: the parity bit makes the number of 1 bits even or odd; R106, R211: what a receiver decides from a whole character
is the clean entry of its byte, and from any levels it is an entry LINE may present. R106, R108: characters sent one after the
other are received as they were sent, and a line held at 0 from a start bit through the first stop bit, however much longer,
is one break entry (sampling is DEDUCED, notes/assumptions/14.md). -/
def Obligations.SampledCharactersAreAllowedEntries : Prop :=
  (∀ (s : State) (d : Byte), s.parity = 1#2 → (onesBelow d 8 + (s.parityBit d).toNat) % 2 = 0) ∧
  (∀ (s : State) (d : Byte), s.parity = 2#2 → (onesBelow d 8 + (s.parityBit d).toNat) % 2 = 1) ∧
  (∀ (s : State) (d : Byte),
    s.sampleChar (s.charBits d) = { b := d, pe := false, se := false, brk := false, gap := false }) ∧
  (∀ (s : State) (levels : List Bool), s.lineAllowed (s.sampleChar levels) = true) ∧
  (∀ (s : State) (bs : List Byte) (rest : List Bool),
    s.receiveLevels .waiting (bs.flatMap s.charBits ++ rest) = cleanEntries bs ++ s.receiveLevels .waiting rest) ∧
  (∀ (s : State) (rest : List Bool), s.receiveLevels .waiting (true :: rest) = s.receiveLevels .waiting rest) ∧
  (∀ (s : State) (n : Nat) (rest : List Bool), 10 + s.hasParity.toNat ≤ n →
    s.receiveLevels .waiting (List.replicate n false ++ true :: rest) =
      { b := 0#8, pe := false, se := false, brk := true, gap := false } :: s.receiveLevels .waiting rest)

/-- R212, R213, R214: an arriving character is lost while the path is off or on the external line in loopback; it is lost
with OVR and a pending gap when RXFIFO is full; else it enters RXFIFO with the pending gap and signals its flags. R211: a
scheduled character that LINE may present arrives on the external line; that any other takes no step is the model's choice
(notes/assumptions/11.md), and so is that byte 0 with a stop-bit error and no break flag may be presented
(notes/assumptions/20.md). -/
def Obligations.ArrivingCharacterEntersRxfifo : Prop :=
  (∀ (s : State) (e : Entry) (src : CharSource), s.en = false ∨ s.rxen = false → s.arrive e src = s) ∧
  (∀ (s : State) (e : Entry), s.loop = true → s.arrive e .ext = s) ∧
  (∀ (s : State) (e : Entry), s.loop = false → s.arrive e .loopback = s) ∧
  (∀ (s : State) (e : Entry) (src : CharSource), s.en = true → s.rxen = true → (src = .loopback ↔ s.loop = true) →
    s.rxfifo.length = 64 →
    s.arrive e src = { s with gapPend := true, sticky := s.sticky ||| 0x0010#14 }) ∧
  (∀ (s : State) (e : Entry) (src : CharSource), s.en = true → s.rxen = true → (src = .loopback ↔ s.loop = true) →
    s.rxfifo.length ≠ 64 →
    s.arrive e src = { s with
      rxfifo := s.rxfifo ++ [{ e with gap := s.gapPend }], gapPend := false,
      sticky := s.sticky ||| (if e.pe then 0x0020#14 else 0#14) ||| (if e.se then 0x0040#14 else 0#14) |||
        (if e.brk then 0x0080#14 else 0#14) }) ∧
  (∀ (s : State) (e : Entry),
    let allowed := e.gap = false ∧ (e.pe = true → s.parity = 1#2 ∨ s.parity = 2#2) ∧
      (e.brk = true → e.b = 0#8 ∧ e.pe = false ∧ e.se = false)
    (s.resetIn = false → allowed → agentMove (.line e) s = s.arrive e .ext) ∧
    (s.resetIn = true ∨ ¬allowed → agentMove (.line e) s = s))

/-- R220, R223, R243: hunting in an unstuffed profile; the entry comes from REPLAY before RXFIFO. A flagged byte is counted and dropped; SYNC0 starts a sync pair or a
candidate (R225); every other byte is counted and offered to the out-of-band capture. -/
def Obligations.UnstuffedHuntFindsTheSyncByte : Prop :=
  ∀ (s u : State) (e : Entry),
    s.resetIn = false → s.en = true → s.frmen = true → s.stuffed = false → s.fstate = .hunt → takesInput s e u →
    (e.pe = true ∨ e.se = true ∨ e.brk = true →
      agentMove .frx s = { u with cntDisc := s.cntDisc + 1#16 }) ∧
    (e.pe = false → e.se = false → e.brk = false → e.b = s.sync0 → s.nsync = 2 →
      agentMove .frx s = { u with fstate := .sync, cand := { s.cand with ents := [{ e with gap := false }] } }) ∧
    (e.pe = false → e.se = false → e.brk = false → e.b = s.sync0 → s.nsync = 1 →
      agentMove .frx s = { u with
        fstate := if s.hasAddr then .addr else if 0 < s.lenw then .len else .pay,
        cand := { Candidate.cleared with ents := [{ e with gap := false }] } }) ∧
    (e.pe = false → e.se = false → e.brk = false → e.b ≠ s.sync0 →
      agentMove .frx s = { u with cntDisc := s.cntDisc + 1#16 }.oob e.b false)

/-- R240: out-of-band capture. -/
def Obligations.OutOfBandBytesAreCaptured : Prop :=
  ∀ (s : State) (v : Byte) (x : Bool),
    (s.ooben = false → s.oob v x = s) ∧
    (s.ooben = true → s.oobq.length = 8 → s.oob v x = { s with sticky := s.sticky ||| 0x0800#14 }) ∧
    (s.ooben = true → s.oobq.length ≠ 8 → s.oob v x = { s with oobq := s.oobq ++ [{ byte := v, escd := x }] })

/-- R224, R226, with R243: an unstuffed sync pair that does not complete is dropped silently and its second byte put back in
front of what REPLAY still holds; in a
candidate a gap fails with cause GAP before a flag fails with cause CHAR, and a clean byte joins the candidate as data. -/
def Obligations.UnstuffedSyncAndCandidateErrors : Prop :=
  ∀ (s u : State) (e : Entry),
    s.resetIn = false → s.en = true → s.frmen = true → s.stuffed = false → takesInput s e u →
    (s.fstate = .sync → e.gap = true ∨ e.pe = true ∨ e.se = true ∨ e.brk = true ∨ e.b ≠ s.sync1 →
      agentMove .frx s = { ({ u with cntDisc := s.cntDisc + 1#16 }.oob s.sync0 false) with
        cand := Candidate.cleared, fstate := .hunt, replay := e :: u.replay }) ∧
    (s.fstate = .sync → e.gap = false → e.pe = false → e.se = false → e.brk = false → e.b = s.sync1 →
      agentMove .frx s = { u with
        fstate := if s.hasAddr then .addr else if 0 < s.lenw then .len else .pay,
        cand := { Candidate.cleared with ents := s.cand.ents ++ [e] } }) ∧
    (s.fstate.isCand = true → e.gap = true → agentMove .frx s = u.fail .gap [e]) ∧
    (s.fstate.isCand = true → e.gap = false → e.pe = true ∨ e.se = true ∨ e.brk = true →
      agentMove .frx s = u.fail .char [e]) ∧
    (s.fstate.isCand = true → e.gap = false → e.pe = false → e.se = false → e.brk = false →
      agentMove .frx s = { u with cand := { s.cand with ents := s.cand.ents ++ [e] } }.dataByte e.b)

/-- R34, R236, R237: a framing error of cause `k` counts, signals FRMERR, records its code, replays an unstuffed candidate
after its first sync byte with the put-back entry, and returns to HUNT. -/
def Obligations.FramingErrorRecordsAndReplays : Prop :=
  ∀ (s : State) (k : FailCause) (pb : List Entry), k ≠ .checksum →
    s.fail k pb = { s with
      cntFrm := s.cntFrm + 1#16
      sticky := s.sticky ||| 0x0004#14
      frmCause := (match k with
        | .checksum => 0#4 | .length => 1#4 | .escape => 2#4 | .endMark => 3#4 | .restart => 4#4 | .char => 5#4
        | .gap => 6#4 | .timeout => 7#4 | .overlong => 8#4)
      replay := if s.stuffed then s.replay else s.cand.ents.tail ++ pb ++ s.replay
      cand := Candidate.cleared
      escp := false
      fstate := .hunt }

/-- R204, R235, R237: a checksum error counts and signals CHKERR; with AUTONAK the NAK is queued on an idle transmitter
(NAKSENT) and dropped on a busy one (NAKDROP). FRMCAUSE is kept. -/
def Obligations.ChecksumErrorCountsAndMayNak : Prop :=
  ∀ (s : State) (pb : List Entry),
    let base := { s with
      cntChk := s.cntChk + 1#16
      replay := if s.stuffed then s.replay else s.cand.ents.tail ++ pb ++ s.replay
      cand := Candidate.cleared
      escp := false
      fstate := .hunt }
    (s.autonak = false → s.fail .checksum pb = { base with sticky := s.sticky ||| 0x0002#14 }) ∧
    (s.autonak = true → s.txq = [] ∧ s.txsh = none ∧ s.txfr = false →
      s.fail .checksum pb = { base with
        sticky := s.sticky ||| 0x0002#14 ||| 0x1000#14
        txq := (if s.nakesc then [s.esc] else []) ++ [s.nakb] }) ∧
    (s.autonak = true → ¬(s.txq = [] ∧ s.txsh = none ∧ s.txfr = false) →
      s.fail .checksum pb = { base with sticky := s.sticky ||| 0x0002#14 ||| 0x2000#14 })

/-- R233, R178, R234: the last checksum byte of a candidate decides. A match hands the payload, its length and address to the
host, counts it and holds it; every other byte of memory reads as before. A mismatch is a checksum error. -/
def Obligations.LastChecksumByteAcceptsOrFails : Prop :=
  ∀ (s : State) (v : Byte), s.fstate = .chk → s.cand.chk.length + 1 = s.chkw → s.cand.pay.length ≤ 256 →
    let u := { s with cand := { s.cand with chk := s.cand.chk ++ [v] } }
    let c := s.checksum (s.chkRange s.cand.addr s.cand.len s.cand.pay)
    (s.chkVal (s.cand.chk ++ [v]) = c →
      ∃ t, s.dataByte v = t ∧
        t = { s with
          mem := t.mem
          rxinfo := 0#8 ++ (if s.hasAddr then s.cand.addr else 0#8) ++ BitVec.ofNat 16 s.cand.pay.length
          cntOk := s.cntOk + 1#16
          sticky := s.sticky ||| 0x0001#14
          cand := Candidate.cleared
          escp := false
          fstate := .hold } ∧
        holdsAt t.mem 0x200 s.cand.pay ∧
        (∀ a, a < 0x200 ∨ 0x200 + s.cand.pay.length ≤ a → t.mem.read a = s.mem.read a)) ∧
    (s.chkVal (s.cand.chk ++ [v]) ≠ c → s.dataByte v = u.fail .checksum [])

/-- R227, R230, R231, R232, R233: the address, length and payload bytes of a candidate, and the first of two checksum bytes
(the last one is LastChecksumByteAcceptsOrFails). -/
def Obligations.CandidateFieldsFollowTheProfile : Prop :=
  ∀ (s : State) (v : Byte),
    (s.fstate = .addr →
      s.dataByte v = { s with
        cand := { s.cand with addr := v }, fstate := if 0 < s.lenw then .len else .pay }) ∧
    (s.fstate = .len → s.lenw = 1 → s.cand.len = [] →
      let n : Int := v.toNat + s.lenAdj - s.ovh
      let u := { s with cand := { s.cand with len := [v] } }
      (n < 1 ∨ 256 < n → s.dataByte v = u.fail .length []) ∧
      (1 ≤ n → n ≤ 256 →
        s.dataByte v = { s with cand := { s.cand with len := [v], nexp := some n.toNat }, fstate := .pay })) ∧
    (∀ w : Byte, s.fstate = .len → s.lenw = 2 → s.cand.len = [w] →
      let l : Nat := if s.lenbe then w.toNat * 256 + v.toNat else v.toNat * 256 + w.toNat
      let n : Int := l + s.lenAdj - s.ovh
      let u := { s with cand := { s.cand with len := [w, v] } }
      (n < 1 ∨ 256 < n → s.dataByte v = u.fail .length []) ∧
      (1 ≤ n → n ≤ 256 →
        s.dataByte v = { s with cand := { s.cand with len := [w, v], nexp := some n.toNat }, fstate := .pay })) ∧
    (s.fstate = .len → s.lenw = 2 → s.cand.len = [] →
      s.dataByte v = { s with cand := { s.cand with len := [v] } }) ∧
    (s.fstate = .pay → s.cand.nexp = none → s.cand.pay.length = 256 → s.dataByte v = s.fail .overlong []) ∧
    (s.fstate = .pay → s.cand.nexp = none → s.cand.pay.length < 256 →
      s.dataByte v = { s with cand := { s.cand with pay := s.cand.pay ++ [v] } }) ∧
    (∀ n, s.fstate = .pay → s.cand.nexp = some n → s.cand.pay.length + 1 < n →
      s.dataByte v = { s with cand := { s.cand with pay := s.cand.pay ++ [v] } }) ∧
    (∀ n, s.fstate = .pay → s.cand.nexp = some n → s.cand.pay.length + 1 = n →
      s.dataByte v = { s with
        cand := { s.cand with pay := s.cand.pay ++ [v] }, fstate := if s.endmk then .trl else .chk }) ∧
    (s.fstate = .trl → s.dataByte v = s.fail .endMark []) ∧
    (s.fstate = .chk → s.cand.chk.length + 1 < s.chkw →
      s.dataByte v = { s with cand := { s.cand with chk := s.cand.chk ++ [v] } })

/-- R114: the token table of a stuffed wire stream, for a legal profile. -/
def Obligations.TokensFollowTheTable : Prop :=
  ∀ (s : State) (b : Byte), s.legal = true → s.stuffed = true →
    (s.escp = false → b = s.esc → s.token b = none) ∧
    (s.escp = false → b = s.sync0 → s.nsync = 1 → s.token b = some .start) ∧
    (s.escp = false → b ≠ s.esc → ¬(b = s.sync0 ∧ s.nsync = 1) → s.token b = some (.data b false)) ∧
    (s.escp = true → b = s.esc → s.token b = some (.data b true)) ∧
    (s.escp = true → b = s.sync0 → s.nsync = 1 → s.token b = some (.data b true)) ∧
    (s.escp = true → b = s.sync1 → s.nsync = 2 → s.token b = some .start) ∧
    (s.escp = true → b = s.etxb → s.endmk = true → s.token b = some .endMark) ∧
    (s.escp = true → b ≠ s.esc → ¬(b = s.sync0 ∧ s.nsync = 1) → ¬(b = s.sync1 ∧ s.nsync = 2) →
      ¬(b = s.etxb ∧ s.endmk = true) → s.token b = some (.badEsc b))

/-- R221, R228, R229: a clean byte in a stuffed profile, by its token, outside and inside a candidate. -/
def Obligations.StuffedTokensActInAndOutsideCandidates : Prop :=
  ∀ (s : State) (b : Byte),
    let u := { s with escp := false }
    (s.token b = none → s.stuffedByte b = { s with escp := true }) ∧
    (s.fstate.isCand = false → s.token b = some .start → s.stuffedByte b = u.start) ∧
    (∀ v x, s.fstate.isCand = false → s.token b = some (.data v x) →
      s.stuffedByte b = { u with cntDisc := s.cntDisc + (if x then 2#16 else 1#16) }.oob v x) ∧
    (s.fstate.isCand = false → s.token b = some .endMark →
      s.stuffedByte b = { u with cntDisc := s.cntDisc + 2#16 }.oob s.etxb true) ∧
    (∀ v, s.fstate.isCand = false → s.token b = some (.badEsc v) →
      s.stuffedByte b = { u with cntDisc := s.cntDisc + 2#16 }.oob v true) ∧
    (s.fstate.isCand = true → s.token b = some .start → s.stuffedByte b = (u.fail .restart []).start) ∧
    (∀ v, s.fstate.isCand = true → s.token b = some (.badEsc v) → s.stuffedByte b = u.fail .escape []) ∧
    (∀ v x, s.fstate.isCand = true → s.token b = some (.data v x) → s.stuffedByte b = u.dataByte v) ∧
    (s.fstate = .trl → s.token b = some .endMark → s.stuffedByte b = { u with fstate := .chk }) ∧
    (s.fstate = .pay → s.cand.nexp = none → s.cand.pay ≠ [] → s.token b = some .endMark →
      s.stuffedByte b = { u with fstate := .chk }) ∧
    (s.fstate = .pay → s.cand.nexp = none → s.cand.pay = [] → s.token b = some .endMark →
      s.stuffedByte b = u.fail .length []) ∧
    (s.fstate = .addr ∨ s.fstate = .len ∨ s.fstate = .chk ∨ (s.fstate = .pay ∧ s.cand.nexp ≠ none) →
      s.token b = some .endMark → s.stuffedByte b = u.fail .endMark [])

/-- R221, R263: an entry of a stuffed profile. A gap first fails a candidate with cause GAP or drops a pending escape; then a
character flag fails a candidate that is still there with cause CHAR, or drops a pending escape, and the byte is counted;
an entry without flags is handled by its token. -/
def Obligations.StuffedEntryGapThenFlagsThenToken : Prop :=
  ∀ (s u : State) (e : Entry),
    s.resetIn = false → s.en = true → s.frmen = true → s.stuffed = true → s.fstate ≠ .hold → takesInput s e u →
    let g := if e.gap = false then u
      else if s.fstate.isCand = true then u.fail .gap []
      else if s.escp = true then { u with cntDisc := s.cntDisc + 1#16, escp := false }
      else u
    (e.pe = false ∧ e.se = false ∧ e.brk = false → agentMove .frx s = g.stuffedByte e.b) ∧
    (e.pe = true ∨ e.se = true ∨ e.brk = true →
      (g.fstate.isCand = true →
        agentMove .frx s = { g.fail .char [] with cntDisc := g.cntDisc + 1#16 }) ∧
      (g.fstate.isCand = false → g.escp = true →
        agentMove .frx s = { g with cntDisc := g.cntDisc + 2#16, escp := false }) ∧
      (g.fstate.isCand = false → g.escp = false →
        agentMove .frx s = { g with cntDisc := g.cntDisc + 1#16 }))

/-- R245: the receive timeout drops a lone SYNC0 or fails the candidate where it is enabled. R215, R220, R241, R245: FRX and
RXT take no step where they are not enabled, in raw mode and in HOLD among others (for a move that is not enabled:
notes/assumptions/4.md). -/
def Obligations.ReceiveTimeoutAndRestingDecoder : Prop :=
  (∀ s : State, s.resetIn = false → s.en = true → s.frmen = true → s.rxto.extractLsb' 0 16 ≠ 0#16 →
    s.replay = [] → s.rxfifo = [] →
    (s.fstate = .sync → agentMove .rxt s =
      { ({ s with cntDisc := s.cntDisc + 1#16 }.oob s.sync0 false) with
        cand := Candidate.cleared, fstate := .hunt }) ∧
    (s.fstate.isCand = true → agentMove .rxt s = s.fail .timeout [])) ∧
  (∀ s : State,
    s.en = false ∨ s.frmen = false ∨ s.rxto.extractLsb' 0 16 = 0#16 ∨ s.fstate = .hunt ∨ s.fstate = .hold ∨
      s.replay ≠ [] ∨ s.rxfifo ≠ [] →
    agentMove .rxt s = s) ∧
  (∀ s : State,
    s.en = false ∨ s.frmen = false ∨ s.fstate = .hold ∨ (s.replay = [] ∧ s.rxfifo = []) → agentMove .frx s = s)

/-- R133, R234, R241: while a frame is held no step changes a byte of RXBUF, but a hardware reset. -/
def Obligations.HeldFrameStaysStable : Prop :=
  ∀ (s t : State), s.fstate = .hold → s.sched.head? ≠ some .releaseReset → step s = .next t →
    ∀ a, 0x200 ≤ a → t.mem.read a = s.mem.read a

/-- R265: the IRQ output. -/
def Obligations.IrqIsTheEnabledSources : Prop :=
  ∀ s : State, s.irq = true ↔
    (∃ i, i < 14 ∧ s.sticky.getLsbD i = true ∧ s.ien.getLsbD i = true) ∨
    (s.ien.getLsbD 18 = true ∧ 0 < s.rxfifo.length) ∨
    (s.ien.getLsbD 19 = true ∧ 0 < s.oobq.length) ∨
    (s.ien.getLsbD 20 = true ∧ s.txq = [] ∧ s.txsh = none)

/-! ## Reset -/

/-- R61, R290: the state right after hardware reset, and releasing the asserted reset input gives that state
(the reset input as two moves is the model's choice, notes/assumptions/12.md). -/
def Obligations.HardwareResetGivesTheResetState : Prop :=
  (let s := State.reset
   s.regValue .id = 0x53464501#32 ∧ s.ctrl = 0#32 ∧ s.line = 0#32 ∧ s.prof0 = 0x00000024#32 ∧ s.prof1 = 0x03100002#32 ∧ s.prof2 = 0x00150000#32 ∧
   s.crc0 = 0x00001021#32 ∧ s.crc1 = 0x00030000#32 ∧ s.statusWord = 0#32 ∧ s.ien = 0#32 ∧ s.rxinfo = 0#32 ∧
   s.acc = 0#16 ∧ s.acc ++ s.final s.acc = 0#32 ∧ s.cntOk = 0#16 ∧ s.cntChk = 0#16 ∧ s.cntFrm = 0#16 ∧
   s.cntDisc = 0#16 ∧ s.rxto = 0#32 ∧ (∀ a, s.mem.read a = none) ∧ s.rxfifo = [] ∧ s.replay = [] ∧ s.oobq = [] ∧
   s.txq = [] ∧ s.gapPend = false ∧ s.escp = false ∧ s.txfr = false ∧ s.fstate = .hunt ∧
   s.cand = Candidate.cleared ∧ s.txsh = none ∧ s.lineOut = [] ∧ s.irq = false) ∧
  (∀ s : State, s.resetIn = true → agentMove .releaseReset s = { State.reset with sched := s.sched })

/-! ## Headline results -/

/-- R205: the round trip. A receiver of the same legal profile that is hunting with nothing pending, given the wire frame
of `(a, p)` one clean character at a time, accepts it with its length, its address and its payload. -/
def Obligations.WireFrameRoundTrip : Prop :=
  ∀ (s : State) (a : Byte) (p : List Byte),
    s.resetIn = false → s.en = true → s.rxen = true → s.frmen = true → s.loop = false → s.legal = true →
    s.fstate = .hunt → s.escp = false → s.replay = [] → s.rxfifo = [] → s.gapPend = false →
    1 ≤ p.length → p.length ≤ 256 →
    (s.lenw = 0 ∨ (s.lenAdj ≤ s.ovh + p.length ∧ s.ovh + p.length - s.lenAdj ≤ 2 ^ (8 * s.lenw) - 1)) →
      ∃ t, runs (2 * (s.wireFrame a p).length) { s with sched := arriveAndDecode (s.wireFrame a p) } t ∧
        t.fstate = .hold ∧ holdsAt t.mem 0x200 p ∧
        t.rxinfo = 0#8 ++ (if s.hasAddr then a else 0#8) ++ BitVec.ofNat 16 p.length ∧
        t.sticky = s.sticky ||| 0x0001#14 ∧ t.cntOk = s.cntOk + 1#16 ∧ t.cntChk = s.cntChk ∧
        t.cntFrm = s.cntFrm ∧ t.cntDisc = s.cntDisc ∧ t.oobq = s.oobq ∧ t.txq = s.txq ∧ t.lineOut = s.lineOut

/-- R242: an FRX step that takes its entry from REPLAY lowers the measure (|CAND| + |REPLAY|, |REPLAY|). -/
def Obligations.ReplayStepsLowerTheMeasure : Prop :=
  ∀ s : State, Inv s → s.resetIn = false → s.frxEnabled = true → s.replay ≠ [] →
    let t := agentMove .frx s
    t.cand.ents.length + t.replay.length < s.cand.ents.length + s.replay.length ∨
    (t.cand.ents.length + t.replay.length = s.cand.ents.length + s.replay.length ∧
      t.replay.length < s.replay.length)

/-- R9: every infinite run of the machine from a state that meets the invariant is weakly fair: a step of LOAD, EMIT or FRX that
stays enabled is eventually taken. It rests on the model's schedule being finite and on the machine's own moves after it
(notes/assumptions/1.md, 3.md). -/
def Obligations.EveryRunIsWeaklyFair : Prop :=
  ∀ r : Nat → State, Inv (r 0) → isRun r → weaklyFair r

/-- The invariant holds right after reset. -/
def Obligations.ResetStateMeetsTheInvariant : Prop := Inv State.reset

/-- Every step keeps the invariant: canonical buffers (R44), reserved bits 0 (R76), FIFO depths (R46, R52), a quiet closed
block (R123), a legal open one (R122), the transmit queue's bounds (R53, R194), an idle decoder in raw mode (R215),
entries LINE may present (R211), and the decoder's record with the bound of R48. -/
def Obligations.EveryStepKeepsTheInvariant : Prop :=
  ∀ (s t : State), Inv s → step s = .next t → Inv t
end

