-- ==== Sys2Proof/Laws/Config.lean ====
section
/-! SUPPORT. The widths of the types are the named parameters of 00_scope.md R11. -/

namespace Sys2Proof

/-- A register and a bus datum have REGW bits. -/
theorem Config.word_width : Word = BitVec Config.regW := rfl

/-- The data of a character has DATABITS bits. -/
theorem Config.byte_width : Byte = BitVec Config.dataBits := rfl

/-- Each statistics counter counts modulo 2 ^ CNTW. -/
theorem Config.counters_lt (s : Machine.State) :
    s.cntOk.toNat < 2 ^ Config.cntW ∧ s.cntChk.toNat < 2 ^ Config.cntW ∧ s.cntFrm.toNat < 2 ^ Config.cntW ∧
      s.cntDisc.toNat < 2 ^ Config.cntW :=
  ⟨s.cntOk.isLt, s.cntChk.isLt, s.cntFrm.isLt, s.cntDisc.isLt⟩

/-- The register window is what an offset reaches (WIN). -/
theorem Config.offset_lt (off : Offset) : off.toNat < Config.winSize := off.isLt

end Sys2Proof
end

