-- ==== Sys2Proof/Laws/Memory.lean ====
section
/-! SUPPORT. The laws of the buffer memory: reads after writes, the canonical form, and its keeping. -/

namespace Sys2Proof.Machine

/-- One step of a read. -/
theorem Memory.read_cons (c : Host.Cell) (m : Memory) (b : Nat) :
    Memory.read (c :: m) b = if c.1 = b then some c.2 else m.read b := by
  simp only [Memory.read, beq_iff_eq]

/-- One step of a write. -/
theorem Memory.write_cons (c : Host.Cell) (m : Memory) (a : Nat) (v : Byte) :
    Memory.write (c :: m) a v =
      if a < c.1 then (a, v) :: c :: m else if a = c.1 then (a, v) :: m else c :: m.write a v := by
  simp only [Memory.write, beq_iff_eq]

/-- A byte read where it was just written is the byte written. -/
@[simp] theorem Memory.read_write_same (m : Memory) (a : Nat) (v : Byte) : (m.write a v).read a = some v := by
  induction m with
  | nil => simp [Memory.write, Memory.read]
  | cons c rest ih =>
    rw [Memory.write_cons]
    split
    · rw [Memory.read_cons, if_pos rfl]
    · split
      · rw [Memory.read_cons, if_pos rfl]
      · rw [Memory.read_cons, if_neg (by omega), ih]

/-- A byte elsewhere reads as before. -/
theorem Memory.read_write_other (m : Memory) {a b : Nat} (v : Byte) (h : b ≠ a) :
    (m.write a v).read b = m.read b := by
  induction m with
  | nil => rw [Memory.write, Memory.read_cons, if_neg (by simpa using h.symm)]
  | cons c rest ih =>
    rw [Memory.write_cons]
    split
    · rw [Memory.read_cons, if_neg (by simpa using h.symm)]
    · split
      · rw [Memory.read_cons, Memory.read_cons, if_neg (by simpa using h.symm), if_neg (by omega)]
      · rw [Memory.read_cons, Memory.read_cons, ih]

/-- The canonical form of a list with its first entry. -/
theorem Memory.wf_cons (c : Host.Cell) (m : Memory) :
    Memory.wf (c :: m) = true ↔ (∀ d ∈ m.head?, c.1 < d.1) ∧ Memory.wf m = true := by
  cases m <;> simp [Memory.wf]

/-- The first entry after a write: the written one or the old first one. -/
theorem Memory.head_write (m : Memory) (a : Nat) (v : Byte) :
    ∀ d ∈ (m.write a v).head?, d.1 = a ∨ d ∈ m.head? := by
  cases m with
  | nil => simp [Memory.write]
  | cons c rest =>
    rw [Memory.write_cons]
    split
    · simp
    · split <;> simp

/-- A write keeps the canonical form. -/
theorem Memory.wf_write (m : Memory) (a : Nat) (v : Byte) (h : Memory.wf m = true) :
    Memory.wf (m.write a v) = true := by
  induction m with
  | nil => rfl
  | cons c rest ih =>
    obtain ⟨hc, hr⟩ := (Memory.wf_cons c rest).1 h
    rw [Memory.write_cons]
    split
    · rename_i h1
      exact (Memory.wf_cons _ _).2 ⟨by simpa using h1, h⟩
    · split
      · rename_i h1 h2
        have : a = c.1 := h2
        exact (Memory.wf_cons _ _).2 ⟨by simpa [this] using hc, hr⟩
      · rename_i h1 h2
        refine (Memory.wf_cons _ _).2 ⟨fun d hd => ?_, ih hr⟩
        rcases Memory.head_write rest a v d hd with e | e
        · omega
        · exact hc d e

/-- Writing a run of bytes keeps the canonical form. -/
theorem Memory.wf_writeBytes (m : Memory) (a : Nat) (p : List Byte) (h : Memory.wf m = true) :
    Memory.wf (m.writeBytes a p) = true := by
  induction p generalizing m a with
  | nil => exact h
  | cons v rest ih => exact ih _ _ (Memory.wf_write m a v h)

/-- Every entry after a write is the written one or an old one. -/
theorem Memory.mem_write (m : Memory) (a : Nat) (v : Byte) (c : Host.Cell) (h : c ∈ m.write a v) :
    c = (a, v) ∨ c ∈ m := by
  induction m with
  | nil => simpa [Memory.write] using h
  | cons d rest ih =>
    rw [Memory.write_cons] at h
    split at h
    · simpa using h
    · split at h
      · rcases List.mem_cons.1 h with e | e
        · exact .inl e
        · exact .inr (List.mem_cons_of_mem _ e)
      · rcases List.mem_cons.1 h with e | e
        · exact .inr (by simp [e])
        · exact (ih e).imp id (List.mem_cons_of_mem _)

/-- Every entry after a run of writes is an old one or lies in the run. -/
theorem Memory.mem_writeBytes (m : Memory) (a : Nat) (p : List Byte) (c : Host.Cell)
    (h : c ∈ m.writeBytes a p) : c ∈ m ∨ (a ≤ c.1 ∧ c.1 < a + p.length) := by
  induction p generalizing m a with
  | nil => exact .inl h
  | cons v rest ih =>
    rcases ih (m.write a v) (a + 1) h with e | e
    · rcases Memory.mem_write m a v c e with e | e
      · right
        simp [e]
      · exact .inl e
    · right
      simp only [List.length_cons]
      omega

/-- Outside a run of writes every byte reads as before. -/
theorem Memory.read_writeBytes_outside (m : Memory) (a b : Nat) (p : List Byte)
    (h : b < a ∨ a + p.length ≤ b) : (m.writeBytes a p).read b = m.read b := by
  induction p generalizing m a with
  | nil => rfl
  | cons v rest ih =>
    simp only [List.length_cons] at h
    rw [Memory.writeBytes, ih (m.write a v) (a + 1) (by omega), Memory.read_write_other m v (by omega)]

/-- Inside a run of writes each byte reads as written. -/
theorem Memory.read_writeBytes_inside (m : Memory) (a k : Nat) (p : List Byte) (h : k < p.length) :
    (m.writeBytes a p).read (a + k) = some (p.getD k 0#8) := by
  induction p generalizing m a k with
  | nil => simp at h
  | cons v rest ih =>
    cases k with
    | zero =>
      rw [Memory.writeBytes, Memory.read_writeBytes_outside _ _ _ _ (by omega)]
      simp
    | succ k =>
      rw [Memory.writeBytes, show a + (k + 1) = a + 1 + k by omega, ih _ _ _ (by simpa using h)]
      simp

/-- Reading a run that is all there gives its bytes. -/
theorem Memory.readBytes_ok (m : Memory) (a : Nat) (p : List Byte)
    (h : ∀ k, k < p.length → m.read (a + k) = some (p.getD k 0#8)) :
    m.readBytes a p.length = .ok p := by
  induction p generalizing a with
  | nil => rfl
  | cons v rest ih =>
    have h0 : m.read a = some v := by simpa using h 0 (by simp)
    have hr := ih (a + 1) fun k hk => by
      have := h (k + 1) (by simpa using hk)
      rwa [show a + (k + 1) = a + 1 + k by omega, List.getD_cons_succ] at this
    simp [Memory.readBytes, h0, hr]

/-- What a successful read of a run says of each of its bytes. -/
theorem Memory.readBytes_spec {m : Memory} {a n : Nat} {p : List Byte} (h : m.readBytes a n = .ok p) :
    p.length = n ∧ ∀ k, k < n → m.read (a + k) = some (p.getD k 0#8) := by
  induction n generalizing a p with
  | zero =>
    simp only [Memory.readBytes, Except.ok.injEq] at h
    subst h
    simp
  | succ n ih =>
    simp only [Memory.readBytes] at h
    split at h
    · simp at h
    · rename_i v hv
      split at h
      · rename_i rest hr
        simp only [Except.ok.injEq] at h
        subst h
        obtain ⟨hl, hk⟩ := ih hr
        refine ⟨by simp [hl], fun k hlt => ?_⟩
        cases k with
        | zero => simpa using hv
        | succ k =>
          have := hk k (by omega)
          rwa [show a + (k + 1) = a + 1 + k by omega, List.getD_cons_succ]
      · simp at h

/-- A failed read of a run names the first offset of it that holds no value. -/
theorem Memory.readBytes_error {m : Memory} {a n off : Nat} (h : m.readBytes a n = .error off) :
    m.read off = none ∧ a ≤ off ∧ off < a + n := by
  induction n generalizing a with
  | zero => simp [Memory.readBytes] at h
  | succ n ih =>
    simp only [Memory.readBytes] at h
    split at h
    · rename_i hv
      simp only [Except.error.injEq] at h
      subst h
      exact ⟨hv, by omega, by omega⟩
    · split at h
      · simp at h
      · rename_i e hr
        simp only [Except.error.injEq] at h
        subst h
        obtain ⟨h1, h2, h3⟩ := ih hr
        exact ⟨h1, by omega, by omega⟩

/-- The memory after reset has the canonical form. -/
theorem State.reset_mem_wf : Memory.wf State.reset.mem = true := rfl

end Sys2Proof.Machine
end

