-- ==== Sys2Proof/Laws/State.lean ====
section
/-! SUPPORT. One lemma per field per update: what each shared update of the state leaves in each field. -/

namespace Sys2Proof.Machine

/-! ## signal -/

@[simp] theorem State.signal_ctrl (s : State) (x : Event) : (s.signal x).ctrl = s.ctrl := rfl
@[simp] theorem State.signal_line (s : State) (x : Event) : (s.signal x).line = s.line := rfl
@[simp] theorem State.signal_prof0 (s : State) (x : Event) : (s.signal x).prof0 = s.prof0 := rfl
@[simp] theorem State.signal_prof1 (s : State) (x : Event) : (s.signal x).prof1 = s.prof1 := rfl
@[simp] theorem State.signal_prof2 (s : State) (x : Event) : (s.signal x).prof2 = s.prof2 := rfl
@[simp] theorem State.signal_crc0 (s : State) (x : Event) : (s.signal x).crc0 = s.crc0 := rfl
@[simp] theorem State.signal_crc1 (s : State) (x : Event) : (s.signal x).crc1 = s.crc1 := rfl
@[simp] theorem State.signal_sticky (s : State) (x : Event) : (s.signal x).sticky = s.sticky ||| (1#14 <<< x.code) := rfl
@[simp] theorem State.signal_frmCause (s : State) (x : Event) : (s.signal x).frmCause = s.frmCause := rfl
@[simp] theorem State.signal_ien (s : State) (x : Event) : (s.signal x).ien = s.ien := rfl
@[simp] theorem State.signal_rxinfo (s : State) (x : Event) : (s.signal x).rxinfo = s.rxinfo := rfl
@[simp] theorem State.signal_rxto (s : State) (x : Event) : (s.signal x).rxto = s.rxto := rfl
@[simp] theorem State.signal_acc (s : State) (x : Event) : (s.signal x).acc = s.acc := rfl
@[simp] theorem State.signal_cntOk (s : State) (x : Event) : (s.signal x).cntOk = s.cntOk := rfl
@[simp] theorem State.signal_cntChk (s : State) (x : Event) : (s.signal x).cntChk = s.cntChk := rfl
@[simp] theorem State.signal_cntFrm (s : State) (x : Event) : (s.signal x).cntFrm = s.cntFrm := rfl
@[simp] theorem State.signal_cntDisc (s : State) (x : Event) : (s.signal x).cntDisc = s.cntDisc := rfl
@[simp] theorem State.signal_mem (s : State) (x : Event) : (s.signal x).mem = s.mem := rfl
@[simp] theorem State.signal_rxfifo (s : State) (x : Event) : (s.signal x).rxfifo = s.rxfifo := rfl
@[simp] theorem State.signal_gapPend (s : State) (x : Event) : (s.signal x).gapPend = s.gapPend := rfl
@[simp] theorem State.signal_replay (s : State) (x : Event) : (s.signal x).replay = s.replay := rfl
@[simp] theorem State.signal_fstate (s : State) (x : Event) : (s.signal x).fstate = s.fstate := rfl
@[simp] theorem State.signal_escp (s : State) (x : Event) : (s.signal x).escp = s.escp := rfl
@[simp] theorem State.signal_cand (s : State) (x : Event) : (s.signal x).cand = s.cand := rfl
@[simp] theorem State.signal_oobq (s : State) (x : Event) : (s.signal x).oobq = s.oobq := rfl
@[simp] theorem State.signal_txq (s : State) (x : Event) : (s.signal x).txq = s.txq := rfl
@[simp] theorem State.signal_txsh (s : State) (x : Event) : (s.signal x).txsh = s.txsh := rfl
@[simp] theorem State.signal_txfr (s : State) (x : Event) : (s.signal x).txfr = s.txfr := rfl
@[simp] theorem State.signal_lineOut (s : State) (x : Event) : (s.signal x).lineOut = s.lineOut := rfl
@[simp] theorem State.signal_resetIn (s : State) (x : Event) : (s.signal x).resetIn = s.resetIn := rfl
@[simp] theorem State.signal_resp (s : State) (x : Event) : (s.signal x).resp = s.resp := rfl
@[simp] theorem State.signal_sched (s : State) (x : Event) : (s.signal x).sched = s.sched := rfl

@[simp] theorem State.signal_hasAddr (s : State) (x : Event) : (s.signal x).hasAddr = s.hasAddr := rfl
@[simp] theorem State.signal_lenw (s : State) (x : Event) : (s.signal x).lenw = s.lenw := rfl
@[simp] theorem State.signal_stuffed (s : State) (x : Event) : (s.signal x).stuffed = s.stuffed := rfl
@[simp] theorem State.signal_nsync2 (s : State) (x : Event) : (s.signal x).nsync2 = s.nsync2 := rfl
@[simp] theorem State.signal_endmk (s : State) (x : Event) : (s.signal x).endmk = s.endmk := rfl
@[simp] theorem State.signal_crcAlg (s : State) (x : Event) : (s.signal x).crcAlg = s.crcAlg := rfl
@[simp] theorem State.signal_nsync (s : State) (x : Event) : (s.signal x).nsync = s.nsync := rfl
@[simp] theorem State.signal_chkw (s : State) (x : Event) : (s.signal x).chkw = s.chkw := rfl
@[simp] theorem State.signal_ovh (s : State) (x : Event) : (s.signal x).ovh = s.ovh := rfl
@[simp] theorem State.signal_legal (s : State) (x : Event) : (s.signal x).legal = s.legal := rfl
@[simp] theorem State.signal_loop (s : State) (x : Event) : (s.signal x).loop = s.loop := rfl
@[simp] theorem State.signal_ooben (s : State) (x : Event) : (s.signal x).ooben = s.ooben := rfl
@[simp] theorem State.signal_autonak (s : State) (x : Event) : (s.signal x).autonak = s.autonak := rfl
@[simp] theorem State.signal_rxen (s : State) (x : Event) : (s.signal x).rxen = s.rxen := rfl
@[simp] theorem State.signal_frmen (s : State) (x : Event) : (s.signal x).frmen = s.frmen := rfl
@[simp] theorem State.signal_en (s : State) (x : Event) : (s.signal x).en = s.en := rfl

/-! ## clearEvents -/

@[simp] theorem State.clearEvents_ctrl (s : State) (ones : BitVec 14) : (s.clearEvents ones).ctrl = s.ctrl := rfl
@[simp] theorem State.clearEvents_line (s : State) (ones : BitVec 14) : (s.clearEvents ones).line = s.line := rfl
@[simp] theorem State.clearEvents_prof0 (s : State) (ones : BitVec 14) : (s.clearEvents ones).prof0 = s.prof0 := rfl
@[simp] theorem State.clearEvents_prof1 (s : State) (ones : BitVec 14) : (s.clearEvents ones).prof1 = s.prof1 := rfl
@[simp] theorem State.clearEvents_prof2 (s : State) (ones : BitVec 14) : (s.clearEvents ones).prof2 = s.prof2 := rfl
@[simp] theorem State.clearEvents_crc0 (s : State) (ones : BitVec 14) : (s.clearEvents ones).crc0 = s.crc0 := rfl
@[simp] theorem State.clearEvents_crc1 (s : State) (ones : BitVec 14) : (s.clearEvents ones).crc1 = s.crc1 := rfl
@[simp] theorem State.clearEvents_sticky (s : State) (ones : BitVec 14) : (s.clearEvents ones).sticky = s.sticky &&& ~~~ones := rfl
@[simp] theorem State.clearEvents_frmCause (s : State) (ones : BitVec 14) : (s.clearEvents ones).frmCause = s.frmCause := rfl
@[simp] theorem State.clearEvents_ien (s : State) (ones : BitVec 14) : (s.clearEvents ones).ien = s.ien := rfl
@[simp] theorem State.clearEvents_rxinfo (s : State) (ones : BitVec 14) : (s.clearEvents ones).rxinfo = s.rxinfo := rfl
@[simp] theorem State.clearEvents_rxto (s : State) (ones : BitVec 14) : (s.clearEvents ones).rxto = s.rxto := rfl
@[simp] theorem State.clearEvents_acc (s : State) (ones : BitVec 14) : (s.clearEvents ones).acc = s.acc := rfl
@[simp] theorem State.clearEvents_cntOk (s : State) (ones : BitVec 14) : (s.clearEvents ones).cntOk = s.cntOk := rfl
@[simp] theorem State.clearEvents_cntChk (s : State) (ones : BitVec 14) : (s.clearEvents ones).cntChk = s.cntChk := rfl
@[simp] theorem State.clearEvents_cntFrm (s : State) (ones : BitVec 14) : (s.clearEvents ones).cntFrm = s.cntFrm := rfl
@[simp] theorem State.clearEvents_cntDisc (s : State) (ones : BitVec 14) : (s.clearEvents ones).cntDisc = s.cntDisc := rfl
@[simp] theorem State.clearEvents_mem (s : State) (ones : BitVec 14) : (s.clearEvents ones).mem = s.mem := rfl
@[simp] theorem State.clearEvents_rxfifo (s : State) (ones : BitVec 14) : (s.clearEvents ones).rxfifo = s.rxfifo := rfl
@[simp] theorem State.clearEvents_gapPend (s : State) (ones : BitVec 14) : (s.clearEvents ones).gapPend = s.gapPend := rfl
@[simp] theorem State.clearEvents_replay (s : State) (ones : BitVec 14) : (s.clearEvents ones).replay = s.replay := rfl
@[simp] theorem State.clearEvents_fstate (s : State) (ones : BitVec 14) : (s.clearEvents ones).fstate = s.fstate := rfl
@[simp] theorem State.clearEvents_escp (s : State) (ones : BitVec 14) : (s.clearEvents ones).escp = s.escp := rfl
@[simp] theorem State.clearEvents_cand (s : State) (ones : BitVec 14) : (s.clearEvents ones).cand = s.cand := rfl
@[simp] theorem State.clearEvents_oobq (s : State) (ones : BitVec 14) : (s.clearEvents ones).oobq = s.oobq := rfl
@[simp] theorem State.clearEvents_txq (s : State) (ones : BitVec 14) : (s.clearEvents ones).txq = s.txq := rfl
@[simp] theorem State.clearEvents_txsh (s : State) (ones : BitVec 14) : (s.clearEvents ones).txsh = s.txsh := rfl
@[simp] theorem State.clearEvents_txfr (s : State) (ones : BitVec 14) : (s.clearEvents ones).txfr = s.txfr := rfl
@[simp] theorem State.clearEvents_lineOut (s : State) (ones : BitVec 14) : (s.clearEvents ones).lineOut = s.lineOut := rfl
@[simp] theorem State.clearEvents_resetIn (s : State) (ones : BitVec 14) : (s.clearEvents ones).resetIn = s.resetIn := rfl
@[simp] theorem State.clearEvents_resp (s : State) (ones : BitVec 14) : (s.clearEvents ones).resp = s.resp := rfl
@[simp] theorem State.clearEvents_sched (s : State) (ones : BitVec 14) : (s.clearEvents ones).sched = s.sched := rfl

@[simp] theorem State.clearEvents_hasAddr (s : State) (ones : BitVec 14) : (s.clearEvents ones).hasAddr = s.hasAddr := rfl
@[simp] theorem State.clearEvents_lenw (s : State) (ones : BitVec 14) : (s.clearEvents ones).lenw = s.lenw := rfl
@[simp] theorem State.clearEvents_stuffed (s : State) (ones : BitVec 14) : (s.clearEvents ones).stuffed = s.stuffed := rfl
@[simp] theorem State.clearEvents_nsync2 (s : State) (ones : BitVec 14) : (s.clearEvents ones).nsync2 = s.nsync2 := rfl
@[simp] theorem State.clearEvents_endmk (s : State) (ones : BitVec 14) : (s.clearEvents ones).endmk = s.endmk := rfl
@[simp] theorem State.clearEvents_crcAlg (s : State) (ones : BitVec 14) : (s.clearEvents ones).crcAlg = s.crcAlg := rfl
@[simp] theorem State.clearEvents_nsync (s : State) (ones : BitVec 14) : (s.clearEvents ones).nsync = s.nsync := rfl
@[simp] theorem State.clearEvents_chkw (s : State) (ones : BitVec 14) : (s.clearEvents ones).chkw = s.chkw := rfl
@[simp] theorem State.clearEvents_ovh (s : State) (ones : BitVec 14) : (s.clearEvents ones).ovh = s.ovh := rfl
@[simp] theorem State.clearEvents_legal (s : State) (ones : BitVec 14) : (s.clearEvents ones).legal = s.legal := rfl
@[simp] theorem State.clearEvents_loop (s : State) (ones : BitVec 14) : (s.clearEvents ones).loop = s.loop := rfl
@[simp] theorem State.clearEvents_ooben (s : State) (ones : BitVec 14) : (s.clearEvents ones).ooben = s.ooben := rfl
@[simp] theorem State.clearEvents_autonak (s : State) (ones : BitVec 14) : (s.clearEvents ones).autonak = s.autonak := rfl
@[simp] theorem State.clearEvents_rxen (s : State) (ones : BitVec 14) : (s.clearEvents ones).rxen = s.rxen := rfl
@[simp] theorem State.clearEvents_frmen (s : State) (ones : BitVec 14) : (s.clearEvents ones).frmen = s.frmen := rfl
@[simp] theorem State.clearEvents_en (s : State) (ones : BitVec 14) : (s.clearEvents ones).en = s.en := rfl

/-! ## discard -/

@[simp] theorem State.discard_ctrl (s : State) (k : Nat) : (s.discard k).ctrl = s.ctrl := rfl
@[simp] theorem State.discard_line (s : State) (k : Nat) : (s.discard k).line = s.line := rfl
@[simp] theorem State.discard_prof0 (s : State) (k : Nat) : (s.discard k).prof0 = s.prof0 := rfl
@[simp] theorem State.discard_prof1 (s : State) (k : Nat) : (s.discard k).prof1 = s.prof1 := rfl
@[simp] theorem State.discard_prof2 (s : State) (k : Nat) : (s.discard k).prof2 = s.prof2 := rfl
@[simp] theorem State.discard_crc0 (s : State) (k : Nat) : (s.discard k).crc0 = s.crc0 := rfl
@[simp] theorem State.discard_crc1 (s : State) (k : Nat) : (s.discard k).crc1 = s.crc1 := rfl
@[simp] theorem State.discard_sticky (s : State) (k : Nat) : (s.discard k).sticky = s.sticky := rfl
@[simp] theorem State.discard_frmCause (s : State) (k : Nat) : (s.discard k).frmCause = s.frmCause := rfl
@[simp] theorem State.discard_ien (s : State) (k : Nat) : (s.discard k).ien = s.ien := rfl
@[simp] theorem State.discard_rxinfo (s : State) (k : Nat) : (s.discard k).rxinfo = s.rxinfo := rfl
@[simp] theorem State.discard_rxto (s : State) (k : Nat) : (s.discard k).rxto = s.rxto := rfl
@[simp] theorem State.discard_acc (s : State) (k : Nat) : (s.discard k).acc = s.acc := rfl
@[simp] theorem State.discard_cntOk (s : State) (k : Nat) : (s.discard k).cntOk = s.cntOk := rfl
@[simp] theorem State.discard_cntChk (s : State) (k : Nat) : (s.discard k).cntChk = s.cntChk := rfl
@[simp] theorem State.discard_cntFrm (s : State) (k : Nat) : (s.discard k).cntFrm = s.cntFrm := rfl
@[simp] theorem State.discard_cntDisc (s : State) (k : Nat) : (s.discard k).cntDisc = s.cntDisc + BitVec.ofNat 16 k := rfl
@[simp] theorem State.discard_mem (s : State) (k : Nat) : (s.discard k).mem = s.mem := rfl
@[simp] theorem State.discard_rxfifo (s : State) (k : Nat) : (s.discard k).rxfifo = s.rxfifo := rfl
@[simp] theorem State.discard_gapPend (s : State) (k : Nat) : (s.discard k).gapPend = s.gapPend := rfl
@[simp] theorem State.discard_replay (s : State) (k : Nat) : (s.discard k).replay = s.replay := rfl
@[simp] theorem State.discard_fstate (s : State) (k : Nat) : (s.discard k).fstate = s.fstate := rfl
@[simp] theorem State.discard_escp (s : State) (k : Nat) : (s.discard k).escp = s.escp := rfl
@[simp] theorem State.discard_cand (s : State) (k : Nat) : (s.discard k).cand = s.cand := rfl
@[simp] theorem State.discard_oobq (s : State) (k : Nat) : (s.discard k).oobq = s.oobq := rfl
@[simp] theorem State.discard_txq (s : State) (k : Nat) : (s.discard k).txq = s.txq := rfl
@[simp] theorem State.discard_txsh (s : State) (k : Nat) : (s.discard k).txsh = s.txsh := rfl
@[simp] theorem State.discard_txfr (s : State) (k : Nat) : (s.discard k).txfr = s.txfr := rfl
@[simp] theorem State.discard_lineOut (s : State) (k : Nat) : (s.discard k).lineOut = s.lineOut := rfl
@[simp] theorem State.discard_resetIn (s : State) (k : Nat) : (s.discard k).resetIn = s.resetIn := rfl
@[simp] theorem State.discard_resp (s : State) (k : Nat) : (s.discard k).resp = s.resp := rfl
@[simp] theorem State.discard_sched (s : State) (k : Nat) : (s.discard k).sched = s.sched := rfl

@[simp] theorem State.discard_hasAddr (s : State) (k : Nat) : (s.discard k).hasAddr = s.hasAddr := rfl
@[simp] theorem State.discard_lenw (s : State) (k : Nat) : (s.discard k).lenw = s.lenw := rfl
@[simp] theorem State.discard_stuffed (s : State) (k : Nat) : (s.discard k).stuffed = s.stuffed := rfl
@[simp] theorem State.discard_nsync2 (s : State) (k : Nat) : (s.discard k).nsync2 = s.nsync2 := rfl
@[simp] theorem State.discard_endmk (s : State) (k : Nat) : (s.discard k).endmk = s.endmk := rfl
@[simp] theorem State.discard_crcAlg (s : State) (k : Nat) : (s.discard k).crcAlg = s.crcAlg := rfl
@[simp] theorem State.discard_nsync (s : State) (k : Nat) : (s.discard k).nsync = s.nsync := rfl
@[simp] theorem State.discard_chkw (s : State) (k : Nat) : (s.discard k).chkw = s.chkw := rfl
@[simp] theorem State.discard_ovh (s : State) (k : Nat) : (s.discard k).ovh = s.ovh := rfl
@[simp] theorem State.discard_legal (s : State) (k : Nat) : (s.discard k).legal = s.legal := rfl
@[simp] theorem State.discard_loop (s : State) (k : Nat) : (s.discard k).loop = s.loop := rfl
@[simp] theorem State.discard_ooben (s : State) (k : Nat) : (s.discard k).ooben = s.ooben := rfl
@[simp] theorem State.discard_autonak (s : State) (k : Nat) : (s.discard k).autonak = s.autonak := rfl
@[simp] theorem State.discard_rxen (s : State) (k : Nat) : (s.discard k).rxen = s.rxen := rfl
@[simp] theorem State.discard_frmen (s : State) (k : Nat) : (s.discard k).frmen = s.frmen := rfl
@[simp] theorem State.discard_en (s : State) (k : Nat) : (s.discard k).en = s.en := rfl

/-! ## dropReceived -/

@[simp] theorem State.dropReceived_ctrl (s : State) : s.dropReceived.ctrl = s.ctrl := rfl
@[simp] theorem State.dropReceived_line (s : State) : s.dropReceived.line = s.line := rfl
@[simp] theorem State.dropReceived_prof0 (s : State) : s.dropReceived.prof0 = s.prof0 := rfl
@[simp] theorem State.dropReceived_prof1 (s : State) : s.dropReceived.prof1 = s.prof1 := rfl
@[simp] theorem State.dropReceived_prof2 (s : State) : s.dropReceived.prof2 = s.prof2 := rfl
@[simp] theorem State.dropReceived_crc0 (s : State) : s.dropReceived.crc0 = s.crc0 := rfl
@[simp] theorem State.dropReceived_crc1 (s : State) : s.dropReceived.crc1 = s.crc1 := rfl
@[simp] theorem State.dropReceived_sticky (s : State) : s.dropReceived.sticky = s.sticky := rfl
@[simp] theorem State.dropReceived_frmCause (s : State) : s.dropReceived.frmCause = s.frmCause := rfl
@[simp] theorem State.dropReceived_ien (s : State) : s.dropReceived.ien = s.ien := rfl
@[simp] theorem State.dropReceived_rxinfo (s : State) : s.dropReceived.rxinfo = s.rxinfo := rfl
@[simp] theorem State.dropReceived_rxto (s : State) : s.dropReceived.rxto = s.rxto := rfl
@[simp] theorem State.dropReceived_acc (s : State) : s.dropReceived.acc = s.acc := rfl
@[simp] theorem State.dropReceived_cntOk (s : State) : s.dropReceived.cntOk = s.cntOk := rfl
@[simp] theorem State.dropReceived_cntChk (s : State) : s.dropReceived.cntChk = s.cntChk := rfl
@[simp] theorem State.dropReceived_cntFrm (s : State) : s.dropReceived.cntFrm = s.cntFrm := rfl
@[simp] theorem State.dropReceived_cntDisc (s : State) : s.dropReceived.cntDisc = s.cntDisc := rfl
@[simp] theorem State.dropReceived_mem (s : State) : s.dropReceived.mem = s.mem := rfl
@[simp] theorem State.dropReceived_rxfifo (s : State) : s.dropReceived.rxfifo = [] := rfl
@[simp] theorem State.dropReceived_gapPend (s : State) : s.dropReceived.gapPend = false := rfl
@[simp] theorem State.dropReceived_replay (s : State) : s.dropReceived.replay = [] := rfl
@[simp] theorem State.dropReceived_fstate (s : State) : s.dropReceived.fstate = .hunt := rfl
@[simp] theorem State.dropReceived_escp (s : State) : s.dropReceived.escp = false := rfl
@[simp] theorem State.dropReceived_cand (s : State) : s.dropReceived.cand = Candidate.cleared := rfl
@[simp] theorem State.dropReceived_oobq (s : State) : s.dropReceived.oobq = [] := rfl
@[simp] theorem State.dropReceived_txq (s : State) : s.dropReceived.txq = s.txq := rfl
@[simp] theorem State.dropReceived_txsh (s : State) : s.dropReceived.txsh = s.txsh := rfl
@[simp] theorem State.dropReceived_txfr (s : State) : s.dropReceived.txfr = s.txfr := rfl
@[simp] theorem State.dropReceived_lineOut (s : State) : s.dropReceived.lineOut = s.lineOut := rfl
@[simp] theorem State.dropReceived_resetIn (s : State) : s.dropReceived.resetIn = s.resetIn := rfl
@[simp] theorem State.dropReceived_resp (s : State) : s.dropReceived.resp = s.resp := rfl
@[simp] theorem State.dropReceived_sched (s : State) : s.dropReceived.sched = s.sched := rfl

@[simp] theorem State.dropReceived_hasAddr (s : State) : s.dropReceived.hasAddr = s.hasAddr := rfl
@[simp] theorem State.dropReceived_lenw (s : State) : s.dropReceived.lenw = s.lenw := rfl
@[simp] theorem State.dropReceived_stuffed (s : State) : s.dropReceived.stuffed = s.stuffed := rfl
@[simp] theorem State.dropReceived_nsync2 (s : State) : s.dropReceived.nsync2 = s.nsync2 := rfl
@[simp] theorem State.dropReceived_endmk (s : State) : s.dropReceived.endmk = s.endmk := rfl
@[simp] theorem State.dropReceived_crcAlg (s : State) : s.dropReceived.crcAlg = s.crcAlg := rfl
@[simp] theorem State.dropReceived_nsync (s : State) : s.dropReceived.nsync = s.nsync := rfl
@[simp] theorem State.dropReceived_chkw (s : State) : s.dropReceived.chkw = s.chkw := rfl
@[simp] theorem State.dropReceived_ovh (s : State) : s.dropReceived.ovh = s.ovh := rfl
@[simp] theorem State.dropReceived_legal (s : State) : s.dropReceived.legal = s.legal := rfl
@[simp] theorem State.dropReceived_loop (s : State) : s.dropReceived.loop = s.loop := rfl
@[simp] theorem State.dropReceived_ooben (s : State) : s.dropReceived.ooben = s.ooben := rfl
@[simp] theorem State.dropReceived_autonak (s : State) : s.dropReceived.autonak = s.autonak := rfl
@[simp] theorem State.dropReceived_rxen (s : State) : s.dropReceived.rxen = s.rxen := rfl
@[simp] theorem State.dropReceived_frmen (s : State) : s.dropReceived.frmen = s.frmen := rfl
@[simp] theorem State.dropReceived_en (s : State) : s.dropReceived.en = s.en := rfl

/-! ## close -/

@[simp] theorem State.close_ctrl (s : State) : s.close.ctrl = s.ctrl &&& ~~~1#32 := rfl
@[simp] theorem State.close_line (s : State) : s.close.line = s.line := rfl
@[simp] theorem State.close_prof0 (s : State) : s.close.prof0 = s.prof0 := rfl
@[simp] theorem State.close_prof1 (s : State) : s.close.prof1 = s.prof1 := rfl
@[simp] theorem State.close_prof2 (s : State) : s.close.prof2 = s.prof2 := rfl
@[simp] theorem State.close_crc0 (s : State) : s.close.crc0 = s.crc0 := rfl
@[simp] theorem State.close_crc1 (s : State) : s.close.crc1 = s.crc1 := rfl
@[simp] theorem State.close_sticky (s : State) : s.close.sticky = s.sticky := rfl
@[simp] theorem State.close_frmCause (s : State) : s.close.frmCause = s.frmCause := rfl
@[simp] theorem State.close_ien (s : State) : s.close.ien = s.ien := rfl
@[simp] theorem State.close_rxinfo (s : State) : s.close.rxinfo = s.rxinfo := rfl
@[simp] theorem State.close_rxto (s : State) : s.close.rxto = s.rxto := rfl
@[simp] theorem State.close_acc (s : State) : s.close.acc = s.acc := rfl
@[simp] theorem State.close_cntOk (s : State) : s.close.cntOk = s.cntOk := rfl
@[simp] theorem State.close_cntChk (s : State) : s.close.cntChk = s.cntChk := rfl
@[simp] theorem State.close_cntFrm (s : State) : s.close.cntFrm = s.cntFrm := rfl
@[simp] theorem State.close_cntDisc (s : State) : s.close.cntDisc = s.cntDisc := rfl
@[simp] theorem State.close_mem (s : State) : s.close.mem = s.mem := rfl
@[simp] theorem State.close_rxfifo (s : State) : s.close.rxfifo = [] := rfl
@[simp] theorem State.close_gapPend (s : State) : s.close.gapPend = false := rfl
@[simp] theorem State.close_replay (s : State) : s.close.replay = [] := rfl
@[simp] theorem State.close_fstate (s : State) : s.close.fstate = .hunt := rfl
@[simp] theorem State.close_escp (s : State) : s.close.escp = false := rfl
@[simp] theorem State.close_cand (s : State) : s.close.cand = Candidate.cleared := rfl
@[simp] theorem State.close_oobq (s : State) : s.close.oobq = [] := rfl
@[simp] theorem State.close_txq (s : State) : s.close.txq = [] := rfl
@[simp] theorem State.close_txsh (s : State) : s.close.txsh = none := rfl
@[simp] theorem State.close_txfr (s : State) : s.close.txfr = false := rfl
@[simp] theorem State.close_lineOut (s : State) : s.close.lineOut = s.lineOut := rfl
@[simp] theorem State.close_resetIn (s : State) : s.close.resetIn = s.resetIn := rfl
@[simp] theorem State.close_resp (s : State) : s.close.resp = s.resp := rfl
@[simp] theorem State.close_sched (s : State) : s.close.sched = s.sched := rfl

@[simp] theorem State.close_hasAddr (s : State) : s.close.hasAddr = s.hasAddr := rfl
@[simp] theorem State.close_lenw (s : State) : s.close.lenw = s.lenw := rfl
@[simp] theorem State.close_stuffed (s : State) : s.close.stuffed = s.stuffed := rfl
@[simp] theorem State.close_nsync2 (s : State) : s.close.nsync2 = s.nsync2 := rfl
@[simp] theorem State.close_endmk (s : State) : s.close.endmk = s.endmk := rfl
@[simp] theorem State.close_crcAlg (s : State) : s.close.crcAlg = s.crcAlg := rfl
@[simp] theorem State.close_nsync (s : State) : s.close.nsync = s.nsync := rfl
@[simp] theorem State.close_chkw (s : State) : s.close.chkw = s.chkw := rfl
@[simp] theorem State.close_ovh (s : State) : s.close.ovh = s.ovh := rfl
@[simp] theorem State.close_legal (s : State) : s.close.legal = s.legal := rfl

/-! ## toHunt -/

@[simp] theorem State.toHunt_ctrl (s : State) : s.toHunt.ctrl = s.ctrl := rfl
@[simp] theorem State.toHunt_line (s : State) : s.toHunt.line = s.line := rfl
@[simp] theorem State.toHunt_prof0 (s : State) : s.toHunt.prof0 = s.prof0 := rfl
@[simp] theorem State.toHunt_prof1 (s : State) : s.toHunt.prof1 = s.prof1 := rfl
@[simp] theorem State.toHunt_prof2 (s : State) : s.toHunt.prof2 = s.prof2 := rfl
@[simp] theorem State.toHunt_crc0 (s : State) : s.toHunt.crc0 = s.crc0 := rfl
@[simp] theorem State.toHunt_crc1 (s : State) : s.toHunt.crc1 = s.crc1 := rfl
@[simp] theorem State.toHunt_sticky (s : State) : s.toHunt.sticky = s.sticky := rfl
@[simp] theorem State.toHunt_frmCause (s : State) : s.toHunt.frmCause = s.frmCause := rfl
@[simp] theorem State.toHunt_ien (s : State) : s.toHunt.ien = s.ien := rfl
@[simp] theorem State.toHunt_rxinfo (s : State) : s.toHunt.rxinfo = s.rxinfo := rfl
@[simp] theorem State.toHunt_rxto (s : State) : s.toHunt.rxto = s.rxto := rfl
@[simp] theorem State.toHunt_acc (s : State) : s.toHunt.acc = s.acc := rfl
@[simp] theorem State.toHunt_cntOk (s : State) : s.toHunt.cntOk = s.cntOk := rfl
@[simp] theorem State.toHunt_cntChk (s : State) : s.toHunt.cntChk = s.cntChk := rfl
@[simp] theorem State.toHunt_cntFrm (s : State) : s.toHunt.cntFrm = s.cntFrm := rfl
@[simp] theorem State.toHunt_cntDisc (s : State) : s.toHunt.cntDisc = s.cntDisc := rfl
@[simp] theorem State.toHunt_mem (s : State) : s.toHunt.mem = s.mem := rfl
@[simp] theorem State.toHunt_rxfifo (s : State) : s.toHunt.rxfifo = s.rxfifo := rfl
@[simp] theorem State.toHunt_gapPend (s : State) : s.toHunt.gapPend = s.gapPend := rfl
@[simp] theorem State.toHunt_replay (s : State) : s.toHunt.replay = s.replay := rfl
@[simp] theorem State.toHunt_fstate (s : State) : s.toHunt.fstate = .hunt := rfl
@[simp] theorem State.toHunt_escp (s : State) : s.toHunt.escp = false := rfl
@[simp] theorem State.toHunt_cand (s : State) : s.toHunt.cand = Candidate.cleared := rfl
@[simp] theorem State.toHunt_oobq (s : State) : s.toHunt.oobq = s.oobq := rfl
@[simp] theorem State.toHunt_txq (s : State) : s.toHunt.txq = s.txq := rfl
@[simp] theorem State.toHunt_txsh (s : State) : s.toHunt.txsh = s.txsh := rfl
@[simp] theorem State.toHunt_txfr (s : State) : s.toHunt.txfr = s.txfr := rfl
@[simp] theorem State.toHunt_lineOut (s : State) : s.toHunt.lineOut = s.lineOut := rfl
@[simp] theorem State.toHunt_resetIn (s : State) : s.toHunt.resetIn = s.resetIn := rfl
@[simp] theorem State.toHunt_resp (s : State) : s.toHunt.resp = s.resp := rfl
@[simp] theorem State.toHunt_sched (s : State) : s.toHunt.sched = s.sched := rfl

@[simp] theorem State.toHunt_hasAddr (s : State) : s.toHunt.hasAddr = s.hasAddr := rfl
@[simp] theorem State.toHunt_lenw (s : State) : s.toHunt.lenw = s.lenw := rfl
@[simp] theorem State.toHunt_stuffed (s : State) : s.toHunt.stuffed = s.stuffed := rfl
@[simp] theorem State.toHunt_nsync2 (s : State) : s.toHunt.nsync2 = s.nsync2 := rfl
@[simp] theorem State.toHunt_endmk (s : State) : s.toHunt.endmk = s.endmk := rfl
@[simp] theorem State.toHunt_crcAlg (s : State) : s.toHunt.crcAlg = s.crcAlg := rfl
@[simp] theorem State.toHunt_nsync (s : State) : s.toHunt.nsync = s.nsync := rfl
@[simp] theorem State.toHunt_chkw (s : State) : s.toHunt.chkw = s.chkw := rfl
@[simp] theorem State.toHunt_ovh (s : State) : s.toHunt.ovh = s.ovh := rfl
@[simp] theorem State.toHunt_legal (s : State) : s.toHunt.legal = s.legal := rfl
@[simp] theorem State.toHunt_loop (s : State) : s.toHunt.loop = s.loop := rfl
@[simp] theorem State.toHunt_ooben (s : State) : s.toHunt.ooben = s.ooben := rfl
@[simp] theorem State.toHunt_autonak (s : State) : s.toHunt.autonak = s.autonak := rfl
@[simp] theorem State.toHunt_rxen (s : State) : s.toHunt.rxen = s.rxen := rfl
@[simp] theorem State.toHunt_frmen (s : State) : s.toHunt.frmen = s.frmen := rfl
@[simp] theorem State.toHunt_en (s : State) : s.toHunt.en = s.en := rfl

/-! ## framingError -/

@[simp] theorem State.framingError_ctrl (s : State) (k : FailCause) : (s.framingError k).ctrl = s.ctrl := rfl
@[simp] theorem State.framingError_line (s : State) (k : FailCause) : (s.framingError k).line = s.line := rfl
@[simp] theorem State.framingError_prof0 (s : State) (k : FailCause) : (s.framingError k).prof0 = s.prof0 := rfl
@[simp] theorem State.framingError_prof1 (s : State) (k : FailCause) : (s.framingError k).prof1 = s.prof1 := rfl
@[simp] theorem State.framingError_prof2 (s : State) (k : FailCause) : (s.framingError k).prof2 = s.prof2 := rfl
@[simp] theorem State.framingError_crc0 (s : State) (k : FailCause) : (s.framingError k).crc0 = s.crc0 := rfl
@[simp] theorem State.framingError_crc1 (s : State) (k : FailCause) : (s.framingError k).crc1 = s.crc1 := rfl
@[simp] theorem State.framingError_sticky (s : State) (k : FailCause) : (s.framingError k).sticky = s.sticky ||| 0x0004#14 := rfl
@[simp] theorem State.framingError_frmCause (s : State) (k : FailCause) : (s.framingError k).frmCause = k.code := rfl
@[simp] theorem State.framingError_ien (s : State) (k : FailCause) : (s.framingError k).ien = s.ien := rfl
@[simp] theorem State.framingError_rxinfo (s : State) (k : FailCause) : (s.framingError k).rxinfo = s.rxinfo := rfl
@[simp] theorem State.framingError_rxto (s : State) (k : FailCause) : (s.framingError k).rxto = s.rxto := rfl
@[simp] theorem State.framingError_acc (s : State) (k : FailCause) : (s.framingError k).acc = s.acc := rfl
@[simp] theorem State.framingError_cntOk (s : State) (k : FailCause) : (s.framingError k).cntOk = s.cntOk := rfl
@[simp] theorem State.framingError_cntChk (s : State) (k : FailCause) : (s.framingError k).cntChk = s.cntChk := rfl
@[simp] theorem State.framingError_cntFrm (s : State) (k : FailCause) : (s.framingError k).cntFrm = s.cntFrm + 1#16 := rfl
@[simp] theorem State.framingError_cntDisc (s : State) (k : FailCause) : (s.framingError k).cntDisc = s.cntDisc := rfl
@[simp] theorem State.framingError_mem (s : State) (k : FailCause) : (s.framingError k).mem = s.mem := rfl
@[simp] theorem State.framingError_rxfifo (s : State) (k : FailCause) : (s.framingError k).rxfifo = s.rxfifo := rfl
@[simp] theorem State.framingError_gapPend (s : State) (k : FailCause) : (s.framingError k).gapPend = s.gapPend := rfl
@[simp] theorem State.framingError_replay (s : State) (k : FailCause) : (s.framingError k).replay = s.replay := rfl
@[simp] theorem State.framingError_fstate (s : State) (k : FailCause) : (s.framingError k).fstate = s.fstate := rfl
@[simp] theorem State.framingError_escp (s : State) (k : FailCause) : (s.framingError k).escp = s.escp := rfl
@[simp] theorem State.framingError_cand (s : State) (k : FailCause) : (s.framingError k).cand = s.cand := rfl
@[simp] theorem State.framingError_oobq (s : State) (k : FailCause) : (s.framingError k).oobq = s.oobq := rfl
@[simp] theorem State.framingError_txq (s : State) (k : FailCause) : (s.framingError k).txq = s.txq := rfl
@[simp] theorem State.framingError_txsh (s : State) (k : FailCause) : (s.framingError k).txsh = s.txsh := rfl
@[simp] theorem State.framingError_txfr (s : State) (k : FailCause) : (s.framingError k).txfr = s.txfr := rfl
@[simp] theorem State.framingError_lineOut (s : State) (k : FailCause) : (s.framingError k).lineOut = s.lineOut := rfl
@[simp] theorem State.framingError_resetIn (s : State) (k : FailCause) : (s.framingError k).resetIn = s.resetIn := rfl
@[simp] theorem State.framingError_resp (s : State) (k : FailCause) : (s.framingError k).resp = s.resp := rfl
@[simp] theorem State.framingError_sched (s : State) (k : FailCause) : (s.framingError k).sched = s.sched := rfl

@[simp] theorem State.framingError_hasAddr (s : State) (k : FailCause) : (s.framingError k).hasAddr = s.hasAddr := rfl
@[simp] theorem State.framingError_lenw (s : State) (k : FailCause) : (s.framingError k).lenw = s.lenw := rfl
@[simp] theorem State.framingError_stuffed (s : State) (k : FailCause) : (s.framingError k).stuffed = s.stuffed := rfl
@[simp] theorem State.framingError_nsync2 (s : State) (k : FailCause) : (s.framingError k).nsync2 = s.nsync2 := rfl
@[simp] theorem State.framingError_endmk (s : State) (k : FailCause) : (s.framingError k).endmk = s.endmk := rfl
@[simp] theorem State.framingError_crcAlg (s : State) (k : FailCause) : (s.framingError k).crcAlg = s.crcAlg := rfl
@[simp] theorem State.framingError_nsync (s : State) (k : FailCause) : (s.framingError k).nsync = s.nsync := rfl
@[simp] theorem State.framingError_chkw (s : State) (k : FailCause) : (s.framingError k).chkw = s.chkw := rfl
@[simp] theorem State.framingError_ovh (s : State) (k : FailCause) : (s.framingError k).ovh = s.ovh := rfl
@[simp] theorem State.framingError_legal (s : State) (k : FailCause) : (s.framingError k).legal = s.legal := rfl
@[simp] theorem State.framingError_loop (s : State) (k : FailCause) : (s.framingError k).loop = s.loop := rfl
@[simp] theorem State.framingError_ooben (s : State) (k : FailCause) : (s.framingError k).ooben = s.ooben := rfl
@[simp] theorem State.framingError_autonak (s : State) (k : FailCause) : (s.framingError k).autonak = s.autonak := rfl
@[simp] theorem State.framingError_rxen (s : State) (k : FailCause) : (s.framingError k).rxen = s.rxen := rfl
@[simp] theorem State.framingError_frmen (s : State) (k : FailCause) : (s.framingError k).frmen = s.frmen := rfl
@[simp] theorem State.framingError_en (s : State) (k : FailCause) : (s.framingError k).en = s.en := rfl

/-! ## start -/

@[simp] theorem State.start_ctrl (s : State) : s.start.ctrl = s.ctrl := rfl
@[simp] theorem State.start_line (s : State) : s.start.line = s.line := rfl
@[simp] theorem State.start_prof0 (s : State) : s.start.prof0 = s.prof0 := rfl
@[simp] theorem State.start_prof1 (s : State) : s.start.prof1 = s.prof1 := rfl
@[simp] theorem State.start_prof2 (s : State) : s.start.prof2 = s.prof2 := rfl
@[simp] theorem State.start_crc0 (s : State) : s.start.crc0 = s.crc0 := rfl
@[simp] theorem State.start_crc1 (s : State) : s.start.crc1 = s.crc1 := rfl
@[simp] theorem State.start_sticky (s : State) : s.start.sticky = s.sticky := rfl
@[simp] theorem State.start_frmCause (s : State) : s.start.frmCause = s.frmCause := rfl
@[simp] theorem State.start_ien (s : State) : s.start.ien = s.ien := rfl
@[simp] theorem State.start_rxinfo (s : State) : s.start.rxinfo = s.rxinfo := rfl
@[simp] theorem State.start_rxto (s : State) : s.start.rxto = s.rxto := rfl
@[simp] theorem State.start_acc (s : State) : s.start.acc = s.acc := rfl
@[simp] theorem State.start_cntOk (s : State) : s.start.cntOk = s.cntOk := rfl
@[simp] theorem State.start_cntChk (s : State) : s.start.cntChk = s.cntChk := rfl
@[simp] theorem State.start_cntFrm (s : State) : s.start.cntFrm = s.cntFrm := rfl
@[simp] theorem State.start_cntDisc (s : State) : s.start.cntDisc = s.cntDisc := rfl
@[simp] theorem State.start_mem (s : State) : s.start.mem = s.mem := rfl
@[simp] theorem State.start_rxfifo (s : State) : s.start.rxfifo = s.rxfifo := rfl
@[simp] theorem State.start_gapPend (s : State) : s.start.gapPend = s.gapPend := rfl
@[simp] theorem State.start_replay (s : State) : s.start.replay = s.replay := rfl
@[simp] theorem State.start_fstate (s : State) : s.start.fstate = if s.hasAddr then .addr else if 0 < s.lenw then .len else .pay := rfl
@[simp] theorem State.start_escp (s : State) : s.start.escp = s.escp := rfl
@[simp] theorem State.start_cand (s : State) : s.start.cand = { Candidate.cleared with ents := s.cand.ents } := rfl
@[simp] theorem State.start_oobq (s : State) : s.start.oobq = s.oobq := rfl
@[simp] theorem State.start_txq (s : State) : s.start.txq = s.txq := rfl
@[simp] theorem State.start_txsh (s : State) : s.start.txsh = s.txsh := rfl
@[simp] theorem State.start_txfr (s : State) : s.start.txfr = s.txfr := rfl
@[simp] theorem State.start_lineOut (s : State) : s.start.lineOut = s.lineOut := rfl
@[simp] theorem State.start_resetIn (s : State) : s.start.resetIn = s.resetIn := rfl
@[simp] theorem State.start_resp (s : State) : s.start.resp = s.resp := rfl
@[simp] theorem State.start_sched (s : State) : s.start.sched = s.sched := rfl

@[simp] theorem State.start_hasAddr (s : State) : s.start.hasAddr = s.hasAddr := rfl
@[simp] theorem State.start_lenw (s : State) : s.start.lenw = s.lenw := rfl
@[simp] theorem State.start_stuffed (s : State) : s.start.stuffed = s.stuffed := rfl
@[simp] theorem State.start_nsync2 (s : State) : s.start.nsync2 = s.nsync2 := rfl
@[simp] theorem State.start_endmk (s : State) : s.start.endmk = s.endmk := rfl
@[simp] theorem State.start_crcAlg (s : State) : s.start.crcAlg = s.crcAlg := rfl
@[simp] theorem State.start_nsync (s : State) : s.start.nsync = s.nsync := rfl
@[simp] theorem State.start_chkw (s : State) : s.start.chkw = s.chkw := rfl
@[simp] theorem State.start_ovh (s : State) : s.start.ovh = s.ovh := rfl
@[simp] theorem State.start_legal (s : State) : s.start.legal = s.legal := rfl
@[simp] theorem State.start_loop (s : State) : s.start.loop = s.loop := rfl
@[simp] theorem State.start_ooben (s : State) : s.start.ooben = s.ooben := rfl
@[simp] theorem State.start_autonak (s : State) : s.start.autonak = s.autonak := rfl
@[simp] theorem State.start_rxen (s : State) : s.start.rxen = s.rxen := rfl
@[simp] theorem State.start_frmen (s : State) : s.start.frmen = s.frmen := rfl
@[simp] theorem State.start_en (s : State) : s.start.en = s.en := rfl

/-- Close clears EN (R123). -/
@[simp] theorem State.close_en (s : State) : s.close.en = false := by
  simp [State.en]

end Sys2Proof.Machine
end

