-- ==== Sys2Proof/Laws/Ops.lean ====
section
/-! SUPPORT. One lemma per shared operation: everything it can do, once. -/

namespace Sys2Proof.Machine

/-! ## Events -/

/-- Every code of an event is a STATUS bit 13:0. -/
theorem Event.code_lt (x : Event) : x.code < 14 := by cases x <;> decide

/-- `signal` under a condition: nothing, or one event. -/
theorem State.signalIf_cases (s : State) (c : Bool) (x : Event) :
    (c = true ∧ s.signalIf c x = s.signal x) ∨ (c = false ∧ s.signalIf c x = s) := by
  cases c <;> simp [State.signalIf]

/-! ## Accesses -/

/-- When a register access passes its checks. -/
theorem regionOk_iff (lo : BitVec 2) (size : Size) : regionOk lo size = true ↔ size = .b4 ∧ lo = 0#2 := by
  simp [regionOk]

/-- A register access is its effect, or BusError at its own offset with nothing else changed. -/
theorem State.regAccess_cases (s : State) (r : Reg) (lo : BitVec 2) (size : Size)
    (effect : Host.Outcome State Fault Refusal) :
    ((size = .b4 ∧ lo = 0#2) ∧ s.regAccess r lo size effect = effect) ∨
      (¬(size = .b4 ∧ lo = 0#2) ∧ s.regAccess r lo size effect = .next { s with resp := .error (r.offset lo) }) := by
  by_cases h : regionOk lo size = true
  · exact .inl ⟨(regionOk_iff lo size).1 h, by rw [State.regAccess, if_pos h]⟩
  · exact .inr ⟨fun e => h ((regionOk_iff lo size).2 e), by rw [State.regAccess, if_neg h]; rfl⟩

/-- A host read of a buffer: BusError, its bytes, or the fault of an unwritten byte. -/
theorem State.readBuffer_cases (s : State) (page : BitVec 4) (i : Byte) (size : Size) :
    (bufferOk i size = false ∧
      s.readBuffer page i size = .next { s with resp := .error (bufferOffset page i) }) ∨
    (bufferOk i size = true ∧ ∃ bs, s.mem.readBytes (bufferOffset page i).toNat size.bytes = .ok bs ∧
      s.readBuffer page i size = .next { s with resp := .data (leValue bs) }) ∨
    (bufferOk i size = true ∧ ∃ a, s.mem.read a = none ∧ s.readBuffer page i size = .fault (.unwrittenByte a)) := by
  unfold State.readBuffer
  cases hb : bufferOk i size
  · exact .inl ⟨rfl, rfl⟩
  · cases hr : s.mem.readBytes (bufferOffset page i).toNat size.bytes with
    | ok bs => exact .inr (.inl ⟨rfl, bs, rfl, by simp [State.answer]⟩)
    | error a => exact .inr (.inr ⟨rfl, a, (Memory.readBytes_error hr).1, by simp⟩)

/-- A write to a locked register: stored while closed, CFGERR while open. -/
theorem State.lockedWrite_cases (s stored : State) :
    (s.en = true ∧ s.lockedWrite stored = s.signal .cfgerr) ∨ (s.en = false ∧ s.lockedWrite stored = stored) := by
  cases h : s.en <;> simp [State.lockedWrite, h]

/-- Open: EN set, or CFGERR with EN 0. -/
theorem State.openBlock_cases (s : State) :
    (s.legal = true ∧ s.openBlock = { s with ctrl := s.ctrl ||| 1#32 }) ∨
      (s.legal = false ∧ s.openBlock = { s with ctrl := s.ctrl &&& ~~~1#32 }.signal .cfgerr) := by
  cases h : s.legal <;> simp [State.openBlock, h]

/-- A CTRL write changes CTRL and the sticky bits, and closes the block where it clears EN. -/
theorem State.writeCtrl_cases (s : State) (w : Word) :
    ∃ c k, s.writeCtrl w = { s with ctrl := c, sticky := k } ∨
      (s.en = true ∧ s.writeCtrl w = { s with ctrl := c, sticky := k }.close) := by
  have hf : ∀ v, ∃ c k, s.ctrlFields v = { s with ctrl := c, sticky := k } := fun v => by
    simp only [State.ctrlFields, State.signalIf]
    split
    · exact ⟨_, _, rfl⟩
    · exact ⟨_, _, rfl⟩
  obtain ⟨c, k, h⟩ := hf (w &&& 0x7F#32)
  simp only [State.writeCtrl, h]
  split
  · rcases State.openBlock_cases { s with ctrl := c, sticky := k } with ⟨_, e⟩ | ⟨_, e⟩
    · exact ⟨_, _, .inl e⟩
    · exact ⟨_, _, .inl e⟩
  · split
    · rename_i h2
      exact ⟨c, k, .inr ⟨by simp at h2; exact h2.1, rfl⟩⟩
    · exact ⟨c, k, .inl rfl⟩

/-- Queueing a raw character: refused with CMDERR or BUSYERR, or queued. -/
theorem State.queueChar_cases (s : State) (v : Byte) :
    (s.en = false ∧ s.queueChar v = s.signal .cmderr) ∨
    (s.en = true ∧ s.txFull = true ∧ s.queueChar v = s.signal .busyerr) ∨
    (s.en = true ∧ s.txFull = false ∧ s.queueChar v = { s with txq := s.txq ++ [v] }) := by
  cases h : s.en <;> cases h2 : s.txFull <;> simp [State.queueChar, h, h2]

/-! ## Receive path -/

/-- A character that the receiver takes: an overrun, or one more entry with its events. -/
theorem State.takeChar_cases (s : State) (e : Entry) :
    (s.rxfifo.length = 64 ∧ s.takeChar e = { s with gapPend := true, sticky := s.sticky ||| 0x0010#14 }) ∨
    (s.rxfifo.length ≠ 64 ∧ ∃ k, s.takeChar e = { s with
      rxfifo := s.rxfifo ++ [{ e with gap := s.gapPend }], gapPend := false, sticky := s.sticky ||| k }) := by
  by_cases h : s.rxfifo.length = 64
  · refine .inl ⟨h, ?_⟩
    simp [State.takeChar, Config.rxfifoDepth, h, State.signal, Event.code]
  · refine .inr ⟨h, ?_⟩
    have h' : ¬(s.rxfifo.length == Config.rxfifoDepth) = true := by simpa [Config.rxfifoDepth] using h
    simp only [State.takeChar, if_neg h', State.signalIf]
    refine ⟨(if e.pe then 1#14 <<< Event.parerr.code else 0#14) ||| (if e.se then 1#14 <<< Event.stoperr.code else 0#14) |||
      (if e.brk then 1#14 <<< Event.brk.code else 0#14), ?_⟩
    cases e.pe <;> cases e.se <;> cases e.brk <;> simp [State.signal, BitVec.or_assoc]

/-- An arriving character is lost without a trace, or taken. -/
theorem State.arrive_cases (s : State) (e : Entry) (src : CharSource) :
    s.arrive e src = s ∨ (s.en = true ∧ s.rxen = true ∧ s.arrive e src = s.takeChar e) := by
  unfold State.arrive
  split
  · exact .inl rfl
  · rename_i h
    simp only [Bool.or_eq_true, Bool.not_eq_true', not_or, Bool.not_eq_false] at h
    split
    · exact .inl rfl
    · exact .inl rfl
    · exact .inr ⟨h.1, h.2, rfl⟩
    · exact .inr ⟨h.1, h.2, rfl⟩

/-- Out-of-band capture changes OOBQ or the sticky bits and nothing else, and keeps the depth of OOBQ. -/
theorem State.oob_cases (s : State) (v : Byte) (x : Bool) :
    s.oob v x = s ∨ (s.oobq.length = 8 ∧ s.oob v x = s.signal .oobovf) ∨
      (s.ooben = true ∧ s.oobq.length ≠ 8 ∧ s.oob v x = { s with oobq := s.oobq ++ [{ byte := v, escd := x }] }) := by
  unfold State.oob
  split
  · exact .inl rfl
  · rename_i h
    split
    · rename_i h2
      exact .inr (.inl ⟨by simpa [Config.oobDepth] using h2, rfl⟩)
    · rename_i h2
      exact .inr (.inr ⟨by simpa using h, by simpa [Config.oobDepth] using h2, rfl⟩)

/-- A checksum error changes CNTCHK, the sticky bits and, on an idle transmitter, TXQ; nothing else. -/
theorem State.checksumError_cases (s : State) :
    ∃ k q, s.checksumError = { s with cntChk := s.cntChk + 1#16, sticky := s.sticky ||| k, txq := q } ∧
      (q = s.txq ∨ (s.txq = [] ∧ s.txfr = false ∧ (q = [s.nakb] ∨ q = [s.esc, s.nakb]))) := by
  unfold State.checksumError State.autoNak
  dsimp only
  split
  · split
    · rename_i h
      simp only [Bool.and_eq_true, List.isEmpty_iff, Bool.not_eq_true'] at h
      refine ⟨_, _, by simp only [State.signal, BitVec.or_assoc]; rfl, .inr ⟨h.1.1, h.2, ?_⟩⟩
      change (if s.nakesc = true then [s.esc] else []) ++ [s.nakb] = _ ∨ (if s.nakesc = true then [s.esc] else []) ++ [s.nakb] = _
      cases s.nakesc <;> simp
    · exact ⟨_, _, by simp only [State.signal, BitVec.or_assoc]; rfl, .inl rfl⟩
  · exact ⟨_, _, rfl, .inl rfl⟩

/-- A failure leaves a cleared candidate in HUNT, and REPLAY holds the candidate's tail in an unstuffed profile. -/
theorem State.fail_decoder (s : State) (k : FailCause) (pb : List Entry) :
    (s.fail k pb).fstate = .hunt ∧ (s.fail k pb).cand = Candidate.cleared ∧ (s.fail k pb).escp = false ∧
      (s.fail k pb).replay = if s.stuffed then s.replay else s.cand.ents.tail ++ pb ++ s.replay := by
  have h : (if k == .checksum then s.checksumError else s.framingError k).stuffed = s.stuffed ∧
      (if k == .checksum then s.checksumError else s.framingError k).replay = s.replay ∧
      (if k == .checksum then s.checksumError else s.framingError k).cand = s.cand := by
    split
    · obtain ⟨_, _, e, _⟩ := s.checksumError_cases
      rw [e]
      exact ⟨rfl, rfl, rfl⟩
    · exact ⟨rfl, rfl, rfl⟩
  obtain ⟨h1, h2, h3⟩ := h
  refine ⟨rfl, rfl, rfl, ?_⟩
  unfold State.fail
  dsimp only [State.toHunt]
  rw [h1]
  split
  · exact h2
  · exact congrArg₂ (fun c r => c.ents.tail ++ pb ++ r) h3 h2

/-- Verification accepts the candidate or fails it with a checksum error. -/
theorem State.verify_cases (s : State) : s.verify = s.accept ∨ s.verify = s.fail .checksum [] := by
  unfold State.verify
  split
  · exact .inl rfl
  · exact .inr rfl

/-- The input entry is the head of REPLAY, or the head of RXFIFO when REPLAY is empty. -/
theorem State.nextEntry_cases (s : State) (h : s.frxEnabled = true) :
    (∃ e rest, s.replay = e :: rest ∧ s.nextEntry = some (e, { s with replay := rest })) ∨
    (∃ e rest, s.replay = [] ∧ s.rxfifo = e :: rest ∧ s.nextEntry = some (e, { s with rxfifo := rest })) := by
  unfold State.nextEntry
  cases hr : s.replay with
  | cons e rest => exact .inl ⟨e, rest, rfl, rfl⟩
  | nil =>
    cases hf : s.rxfifo with
    | cons e rest => exact .inr ⟨e, rest, rfl, rfl, rfl⟩
    | nil => simp [State.frxEnabled, hr, hf] at h

/-- What FRX's enabling says. -/
theorem State.frxEnabled_iff (s : State) :
    s.frxEnabled = true ↔
      s.en = true ∧ s.frmen = true ∧ s.fstate ≠ .hold ∧ (s.replay ≠ [] ∨ s.rxfifo ≠ []) := by
  simp [State.frxEnabled, and_assoc]

/-- FRX's step: nothing, or one entry taken and handled as the profile says. -/
theorem State.frxStep_cases (s : State) :
    (s.frxEnabled = false ∧ s.frxStep = s) ∨
    (s.frxEnabled = true ∧ ∃ e t, s.nextEntry = some (e, t) ∧
      s.frxStep = if t.stuffed then t.stuffedStep e else t.plainStep e) := by
  cases h : s.frxEnabled with
  | false => exact .inl ⟨rfl, by simp [State.frxStep, h]⟩
  | true =>
    rcases s.nextEntry_cases h with ⟨e, rest, _, hn⟩ | ⟨e, rest, _, _, hn⟩
    · exact .inr ⟨rfl, e, _, hn, by simp only [State.frxStep, h, hn, if_true]⟩
    · exact .inr ⟨rfl, e, _, hn, by simp only [State.frxStep, h, hn, if_true]⟩

/-! ## Transmitter -/

/-- The end of a frame: TXDONE where a frame's queue has run empty. -/
theorem State.endFrame_cases (s : State) :
    (s.txfr = true ∧ s.txq = [] ∧ s.endFrame = { s with txfr := false }.signal .txdone) ∨
    (¬(s.txfr = true ∧ s.txq = []) ∧ s.endFrame = s) := by
  unfold State.endFrame
  split
  · rename_i h
    simp only [Bool.and_eq_true, List.isEmpty_iff] at h
    exact .inl ⟨h.1, h.2, rfl⟩
  · rename_i h
    exact .inr ⟨by simpa using h, rfl⟩

/-- LOAD: nothing, or the oldest queued character moves to TXSH. -/
theorem State.loadStep_cases (s : State) :
    s.loadStep = s ∨ (s.en = true ∧ s.txen = true ∧ s.txsh = none ∧
      ∃ b rest, s.txq = b :: rest ∧ s.loadStep = { s with txsh := some b, txq := rest }) := by
  unfold State.loadStep
  split
  · rename_i h
    simp only [State.loadEnabled, Bool.and_eq_true, Option.isNone_iff_eq_none, Bool.not_eq_true'] at h
    cases hq : s.txq with
    | nil => simp [hq] at h
    | cons b rest => exact .inr ⟨h.1.1.1, h.1.1.2, h.1.2, b, rest, rfl, by simp⟩
  · exact .inl rfl

/-- EMIT: nothing, or the character in TXSH leaves to the line or to the block's own receiver. -/
theorem State.emitStep_cases (s : State) :
    s.emitStep = s ∨ (s.en = true ∧ ∃ b, s.txsh = some b ∧
      ((s.loop = true ∧ s.emitStep = ({ s with txsh := none }.loopDeliver b).endFrame) ∨
       (s.loop = false ∧ s.emitStep = { s with txsh := none, lineOut := s.lineOut ++ [b] }.endFrame))) := by
  unfold State.emitStep
  split
  · rename_i b he hb
    refine .inr ⟨he, b, hb, ?_⟩
    cases hl : s.loop
    · exact .inr ⟨rfl, by simp only [show State.loop { s with txsh := none } = s.loop from rfl, hl]; rfl⟩
    · exact .inl ⟨rfl, by simp only [show State.loop { s with txsh := none } = s.loop from rfl, hl]; rfl⟩
  · exact .inl rfl

/-! ## Schedule -/

/-- What the fetch of the next move can be. -/
theorem fetch_cases (s : State) :
    (s.sched = [] ∧ internalMove s = none ∧ fetch s = .idle) ∨
    (∃ m, s.sched = [] ∧ internalMove s = some m ∧ fetch s = .agent m s) ∨
    (∃ h rest, s.sched = .host h :: rest ∧ fetch s = .host h { s with sched := rest }) ∨
    (∃ m rest, s.sched = m :: rest ∧ (∀ h, m ≠ .host h) ∧ fetch s = .agent m { s with sched := rest }) := by
  unfold fetch
  split
  · cases hm : internalMove s with
    | none => exact .inl ⟨‹_›, rfl, rfl⟩
    | some m => exact .inr (.inl ⟨m, ‹_›, rfl, rfl⟩)
  · exact .inr (.inr (.inl ⟨_, _, ‹_›, rfl⟩))
  · exact .inr (.inr (.inr ⟨_, _, ‹_›, by assumption, rfl⟩))

/-- What the internal agents' own move can be, and that its step is then enabled. -/
theorem internalMove_cases (s : State) (m : Move) (h : internalMove s = some m) :
    s.resetIn = false ∧
      ((m = .frx ∧ s.frxEnabled = true) ∨
       (m = .emit ∧ s.frxEnabled = false ∧ s.emitEnabled = true) ∨
       (m = .load ∧ s.frxEnabled = false ∧ s.emitEnabled = false ∧ s.loadEnabled = true)) := by
  unfold internalMove at h
  cases hr : s.resetIn <;> cases hf : s.frxEnabled <;> cases he : s.emitEnabled <;> cases hl : s.loadEnabled <;>
    simp_all

/-- With no move of their own, the internal agents have no step enabled or reset is asserted. -/
theorem internalMove_none (s : State) :
    internalMove s = none ↔
      s.resetIn = true ∨ (s.frxEnabled = false ∧ s.emitEnabled = false ∧ s.loadEnabled = false) := by
  unfold internalMove
  cases s.resetIn <;> cases s.frxEnabled <;> cases s.emitEnabled <;> cases s.loadEnabled <;> simp

/-! ## Levels of RXD -/

@[simp] theorem State.receiveLevels_nil (s : State) (p : LinePhase) : s.receiveLevels p [] = [] := by
  cases p <;> rfl

/-- An idle line is no character. -/
@[simp] theorem State.receiveLevels_waiting_mark (s : State) (rest : List Bool) :
    s.receiveLevels .waiting (true :: rest) = s.receiveLevels .waiting rest := rfl

/-- A 0 on the idle line is a start bit. -/
@[simp] theorem State.receiveLevels_waiting_space (s : State) (rest : List Bool) :
    s.receiveLevels .waiting (false :: rest) = s.receiveLevels (.taking [false]) rest := rfl

/-- After a break the line's return to 1 ends the wait (R108). -/
@[simp] theorem State.receiveLevels_broken_mark (s : State) (rest : List Bool) :
    s.receiveLevels .broken (true :: rest) = s.receiveLevels .waiting rest := rfl

/-- After a break a line still held at 0 is no start bit (R108). -/
@[simp] theorem State.receiveLevels_broken_space (s : State) (rest : List Bool) :
    s.receiveLevels .broken (false :: rest) = s.receiveLevels .broken rest := rfl

/-- A level within a character, before its last one. -/
theorem State.receiveLevels_taking (s : State) (got : List Bool) (l : Bool) (rest : List Bool)
    (h : got.length + 1 ≠ s.charLen) :
    s.receiveLevels (.taking got) (l :: rest) = s.receiveLevels (.taking (got ++ [l])) rest := by
  simp [State.receiveLevels, h]

/-- The last level of a character: its entry is reported, and a break that the line has not yet left is waited out. -/
theorem State.receiveLevels_taking_last (s : State) (got : List Bool) (l : Bool) (rest : List Bool)
    (h : got.length + 1 = s.charLen) :
    s.receiveLevels (.taking got) (l :: rest) =
      s.sampleChar (got ++ [l]) ::
        s.receiveLevels (if (s.sampleChar (got ++ [l])).brk && !l then .broken else .waiting) rest := by
  simp [State.receiveLevels, h]

end Sys2Proof.Machine
end

