-- ==== Sys2Proof/Laws/PerInstr.lean ====
section
/-! SUPPORT. The family EncodesInRow: the encoder puts every well-formed instruction into its own row of
spec/opcode_table.json, whose rows stand here a second time, written from the table and not from the decoder. -/

namespace Sys2Proof.Laws

/-- A row of the opcode table: the OPC values of a command row, or the direction and the offset ranges of a bus row
(a mask of 0xFFC or 0xF00 is a range), both ends included. -/
inductive Row where
  | cmd (lo hi : Nat)
  | bus (dir : Dir) (ranges : List (Nat × Nat))
  deriving DecidableEq, Repr

/-- A host word lies in a row. -/
def Row.admits : Row → HostWord → Prop
  | .cmd lo hi, .cmd w => lo ≤ (w.extractLsb' 0 8).toNat ∧ (w.extractLsb' 0 8).toNat ≤ hi
  | .bus dir ranges, .bus a => a.dir = dir ∧ ∃ r ∈ ranges, r.1 ≤ a.off.toNat ∧ a.off.toNat ≤ r.2
  | .cmd _ _, .bus _ => False
  | .bus _ _, .cmd _ => False

/-- The row of each instruction, as spec/opcode_table.json has it. -/
def Row.of : Instr → Row
  | .nop => .cmd 0x00 0x00
  | .srst => .cmd 0x01 0x01
  | .txframe _ _ => .cmd 0x02 0x02
  | .txabort => .cmd 0x03 0x03
  | .rxrelease => .cmd 0x04 0x04
  | .resync => .cmd 0x05 0x05
  | .rxflush => .cmd 0x06 0x06
  | .chkinit => .cmd 0x07 0x07
  | .chkfeed _ => .cmd 0x08 0x08
  | .chkfeedbuf _ _ => .cmd 0x09 0x09
  | .undefined _ => .cmd 0x0A 0xFF
  | .rdReg _ _ _ => .bus .read [(0x000, 0x02F), (0x034, 0x037), (0x03C, 0x0FF)]
  | .wrCtrl _ _ _ => .bus .write [(0x004, 0x007)]
  | .wrLine _ _ _ => .bus .write [(0x008, 0x00B)]
  | .wrProf0 _ _ _ => .bus .write [(0x00C, 0x00F)]
  | .wrProf1 _ _ _ => .bus .write [(0x010, 0x013)]
  | .wrProf2 _ _ _ => .bus .write [(0x014, 0x017)]
  | .wrCrc0 _ _ _ => .bus .write [(0x018, 0x01B)]
  | .wrCrc1 _ _ _ => .bus .write [(0x01C, 0x01F)]
  | .wrCmd _ _ _ => .bus .write [(0x020, 0x023)]
  | .wrStatus _ _ _ => .bus .write [(0x024, 0x027)]
  | .wrIen _ _ _ => .bus .write [(0x028, 0x02B)]
  | .wrTxchar _ _ _ => .bus .write [(0x02C, 0x02F)]
  | .rdRxchar _ _ => .bus .read [(0x030, 0x033)]
  | .rdOob _ _ => .bus .read [(0x038, 0x03B)]
  | .wrChkacc _ _ _ => .bus .write [(0x03C, 0x03F)]
  | .wrCntok _ _ _ => .bus .write [(0x040, 0x043)]
  | .wrCntchk _ _ _ => .bus .write [(0x044, 0x047)]
  | .wrCntfrm _ _ _ => .bus .write [(0x048, 0x04B)]
  | .wrCntdisc _ _ _ => .bus .write [(0x04C, 0x04F)]
  | .wrRxto _ _ _ => .bus .write [(0x054, 0x057)]
  | .wrRo _ _ _ _ => .bus .write [(0x000, 0x003), (0x030, 0x03B), (0x050, 0x053)]
  | .wrReserved _ _ _ => .bus .write [(0x058, 0x0FF), (0x300, 0xFFF)]
  | .rdReservedHigh _ _ => .bus .read [(0x300, 0xFFF)]
  | .rdTxbuf _ _ => .bus .read [(0x100, 0x1FF)]
  | .wrTxbuf _ _ _ => .bus .write [(0x100, 0x1FF)]
  | .rdRxbuf _ _ => .bus .read [(0x200, 0x2FF)]
  | .wrRxbuf _ _ _ => .bus .write [(0x200, 0x2FF)]

/-- The encoding of a well-formed instruction lies in its row. -/
def EncodesInRow.Statement (i : Instr) : Prop := i.wellFormed = true → (Row.of i).admits (encode i)

/-- The offset of byte `lo` of slot `r`, as a number. -/
theorem reg_offset_toNat (r : Reg) (lo : BitVec 2) : (r.offset lo).toNat = 4 * r.index + lo.toNat := by
  have h : r.index < 64 := by cases r <;> simp [Reg.index]; omega
  have h2 := lo.isLt
  rw [Reg.offset, BitVec.toNat_append, ← Nat.shiftLeft_add_eq_or_of_lt lo.isLt, Nat.shiftLeft_eq,
    BitVec.toNat_ofNat]
  omega

/-- A write to a register slot lies in the row of that slot. -/
theorem regWrite_admits (r : Reg) (lo : BitVec 2) (size : Size) (d : Word) (ranges : List (Nat × Nat))
    (h : ∃ p ∈ ranges, p.1 ≤ 4 * r.index ∧ 4 * r.index + 3 ≤ p.2) :
    (Row.bus .write ranges).admits (regWrite r lo size d) := by
  obtain ⟨p, hp, h1, h2⟩ := h
  refine ⟨rfl, p, hp, ?_⟩
  have := lo.isLt
  have := reg_offset_toNat r lo
  simp only
  omega

/-- A read of a register slot lies in the row of that slot. -/
theorem regRead_admits (r : Reg) (lo : BitVec 2) (size : Size) (ranges : List (Nat × Nat))
    (h : ∃ p ∈ ranges, p.1 ≤ 4 * r.index ∧ 4 * r.index + 3 ≤ p.2) :
    (Row.bus .read ranges).admits (regRead r lo size) := by
  obtain ⟨p, hp, h1, h2⟩ := h
  refine ⟨rfl, p, hp, ?_⟩
  have := lo.isLt
  have := reg_offset_toNat r lo
  simp only
  omega

/-- The offset of byte `i` of a buffer, as a number. -/
theorem page_toNat (page : BitVec 4) (i : Byte) : (page ++ i : Offset).toNat = 256 * page.toNat + i.toNat := by
  rw [BitVec.toNat_append, ← Nat.shiftLeft_add_eq_or_of_lt i.isLt, Nat.shiftLeft_eq]
  omega

/-- The OPC of a command word. -/
theorem cmd_opc (opc arg8 : Byte) (arg16 : Half) : (arg16 ++ arg8 ++ opc : Word).extractLsb' 0 8 = opc := by
  rw [BitVec.extractLsb'_append_eq_of_add_le (by omega)]
  simp

theorem EncodesInRow.nop : EncodesInRow.Statement .nop := by
  intro _
  simp [Row.of, Row.admits, encode, cmdWord]

theorem EncodesInRow.srst : EncodesInRow.Statement .srst := by
  intro _
  simp [Row.of, Row.admits, encode, cmdWord]

theorem EncodesInRow.txframe (addr : Byte) (n : Half) : EncodesInRow.Statement (.txframe addr n) := by
  intro _
  simp [Row.of, Row.admits, encode, cmdWord, cmd_opc]

theorem EncodesInRow.txabort : EncodesInRow.Statement .txabort := by
  intro _
  simp [Row.of, Row.admits, encode, cmdWord]

theorem EncodesInRow.rxrelease : EncodesInRow.Statement .rxrelease := by
  intro _
  simp [Row.of, Row.admits, encode, cmdWord]

theorem EncodesInRow.resync : EncodesInRow.Statement .resync := by
  intro _
  simp [Row.of, Row.admits, encode, cmdWord]

theorem EncodesInRow.rxflush : EncodesInRow.Statement .rxflush := by
  intro _
  simp [Row.of, Row.admits, encode, cmdWord]

theorem EncodesInRow.chkinit : EncodesInRow.Statement .chkinit := by
  intro _
  simp [Row.of, Row.admits, encode, cmdWord]

theorem EncodesInRow.chkfeed (d : Byte) : EncodesInRow.Statement (.chkfeed d) := by
  intro _
  simp [Row.of, Row.admits, encode, cmdWord, cmd_opc]

theorem EncodesInRow.chkfeedbuf (start : Byte) (n : Half) : EncodesInRow.Statement (.chkfeedbuf start n) := by
  intro _
  simp [Row.of, Row.admits, encode, cmdWord, cmd_opc]

theorem EncodesInRow.undefined (opc : Byte) : EncodesInRow.Statement (.undefined opc) := by
  intro h
  have h : 0x0A#8 ≤ opc := by simpa [Instr.wellFormed] using h
  have := opc.isLt
  simp only [Row.of, Row.admits, encode, cmdWord, cmd_opc]
  bv_omega

theorem EncodesInRow.rdReg (r : Reg) (lo : BitVec 2) (size : Size) : EncodesInRow.Statement (.rdReg r lo size) := by
  intro h
  refine regRead_admits _ _ _ _ ?_
  cases r <;> simp_all [Instr.wellFormed, Reg.plainRead, Reg.index]
  omega

theorem EncodesInRow.wrCtrl (lo : BitVec 2) (size : Size) (wdata : Word) : EncodesInRow.Statement (.wrCtrl lo size wdata) := by
  intro _
  exact regWrite_admits _ _ _ _ _ (by simp [Reg.index])

theorem EncodesInRow.wrLine (lo : BitVec 2) (size : Size) (wdata : Word) : EncodesInRow.Statement (.wrLine lo size wdata) := by
  intro _
  exact regWrite_admits _ _ _ _ _ (by simp [Reg.index])

theorem EncodesInRow.wrProf0 (lo : BitVec 2) (size : Size) (wdata : Word) : EncodesInRow.Statement (.wrProf0 lo size wdata) := by
  intro _
  exact regWrite_admits _ _ _ _ _ (by simp [Reg.index])

theorem EncodesInRow.wrProf1 (lo : BitVec 2) (size : Size) (wdata : Word) : EncodesInRow.Statement (.wrProf1 lo size wdata) := by
  intro _
  exact regWrite_admits _ _ _ _ _ (by simp [Reg.index])

theorem EncodesInRow.wrProf2 (lo : BitVec 2) (size : Size) (wdata : Word) : EncodesInRow.Statement (.wrProf2 lo size wdata) := by
  intro _
  exact regWrite_admits _ _ _ _ _ (by simp [Reg.index])

theorem EncodesInRow.wrCrc0 (lo : BitVec 2) (size : Size) (wdata : Word) : EncodesInRow.Statement (.wrCrc0 lo size wdata) := by
  intro _
  exact regWrite_admits _ _ _ _ _ (by simp [Reg.index])

theorem EncodesInRow.wrCrc1 (lo : BitVec 2) (size : Size) (wdata : Word) : EncodesInRow.Statement (.wrCrc1 lo size wdata) := by
  intro _
  exact regWrite_admits _ _ _ _ _ (by simp [Reg.index])

theorem EncodesInRow.wrCmd (lo : BitVec 2) (size : Size) (wdata : Word) : EncodesInRow.Statement (.wrCmd lo size wdata) := by
  intro _
  exact regWrite_admits _ _ _ _ _ (by simp [Reg.index])

theorem EncodesInRow.wrStatus (lo : BitVec 2) (size : Size) (wdata : Word) : EncodesInRow.Statement (.wrStatus lo size wdata) := by
  intro _
  exact regWrite_admits _ _ _ _ _ (by simp [Reg.index])

theorem EncodesInRow.wrIen (lo : BitVec 2) (size : Size) (wdata : Word) : EncodesInRow.Statement (.wrIen lo size wdata) := by
  intro _
  exact regWrite_admits _ _ _ _ _ (by simp [Reg.index])

theorem EncodesInRow.wrTxchar (lo : BitVec 2) (size : Size) (wdata : Word) : EncodesInRow.Statement (.wrTxchar lo size wdata) := by
  intro _
  exact regWrite_admits _ _ _ _ _ (by simp [Reg.index])

theorem EncodesInRow.rdRxchar (lo : BitVec 2) (size : Size) : EncodesInRow.Statement (.rdRxchar lo size) := by
  intro _
  exact regRead_admits _ _ _ _ (by simp [Reg.index])

theorem EncodesInRow.rdOob (lo : BitVec 2) (size : Size) : EncodesInRow.Statement (.rdOob lo size) := by
  intro _
  exact regRead_admits _ _ _ _ (by simp [Reg.index])

theorem EncodesInRow.wrChkacc (lo : BitVec 2) (size : Size) (wdata : Word) : EncodesInRow.Statement (.wrChkacc lo size wdata) := by
  intro _
  exact regWrite_admits _ _ _ _ _ (by simp [Reg.index])

theorem EncodesInRow.wrCntok (lo : BitVec 2) (size : Size) (wdata : Word) : EncodesInRow.Statement (.wrCntok lo size wdata) := by
  intro _
  exact regWrite_admits _ _ _ _ _ (by simp [Reg.index])

theorem EncodesInRow.wrCntchk (lo : BitVec 2) (size : Size) (wdata : Word) : EncodesInRow.Statement (.wrCntchk lo size wdata) := by
  intro _
  exact regWrite_admits _ _ _ _ _ (by simp [Reg.index])

theorem EncodesInRow.wrCntfrm (lo : BitVec 2) (size : Size) (wdata : Word) : EncodesInRow.Statement (.wrCntfrm lo size wdata) := by
  intro _
  exact regWrite_admits _ _ _ _ _ (by simp [Reg.index])

theorem EncodesInRow.wrCntdisc (lo : BitVec 2) (size : Size) (wdata : Word) : EncodesInRow.Statement (.wrCntdisc lo size wdata) := by
  intro _
  exact regWrite_admits _ _ _ _ _ (by simp [Reg.index])

theorem EncodesInRow.wrRxto (lo : BitVec 2) (size : Size) (wdata : Word) : EncodesInRow.Statement (.wrRxto lo size wdata) := by
  intro _
  exact regWrite_admits _ _ _ _ _ (by simp [Reg.index])

theorem EncodesInRow.wrRo (r : Reg) (lo : BitVec 2) (size : Size) (wdata : Word) : EncodesInRow.Statement (.wrRo r lo size wdata) := by
  intro h
  refine regWrite_admits _ _ _ _ _ ?_
  cases r <;> simp_all [Instr.wellFormed, Reg.readOnly, Reg.index]

theorem EncodesInRow.wrReserved (off : Offset) (size : Size) (wdata : Word) : EncodesInRow.Statement (.wrReserved off size wdata) := by
  intro h
  simp [Instr.wellFormed, Offset.reservedLow, Offset.reservedHigh] at h
  simp only [Row.of, Row.admits, encode, List.mem_cons, List.not_mem_nil, or_false, exists_eq_or_imp,
    exists_eq_left, true_and]
  bv_omega

theorem EncodesInRow.rdReservedHigh (off : Offset) (size : Size) : EncodesInRow.Statement (.rdReservedHigh off size) := by
  intro h
  simp [Instr.wellFormed, Offset.reservedHigh] at h
  simp only [Row.of, Row.admits, encode, List.mem_cons, List.not_mem_nil, or_false, exists_eq_left, true_and]
  bv_omega

theorem EncodesInRow.rdTxbuf (i : Byte) (size : Size) : EncodesInRow.Statement (.rdTxbuf i size) := by
  intro _
  have := i.isLt
  simp [Row.of, Row.admits, encode, page_toNat]
  omega

theorem EncodesInRow.wrTxbuf (i : Byte) (size : Size) (wdata : Word) : EncodesInRow.Statement (.wrTxbuf i size wdata) := by
  intro _
  have := i.isLt
  simp [Row.of, Row.admits, encode, page_toNat]
  omega

theorem EncodesInRow.rdRxbuf (i : Byte) (size : Size) : EncodesInRow.Statement (.rdRxbuf i size) := by
  intro _
  have := i.isLt
  simp [Row.of, Row.admits, encode, page_toNat]
  omega

theorem EncodesInRow.wrRxbuf (i : Byte) (size : Size) (wdata : Word) : EncodesInRow.Statement (.wrRxbuf i size wdata) := by
  intro _
  have := i.isLt
  simp [Row.of, Row.admits, encode, page_toNat]
  omega

end Sys2Proof.Laws
end

