-- ==== Sys2Proof/Tests/Slice0.lean ====
section
/-! SUPPORT. The model's own tests: well-formedness refusals, decoding of written-out words, single steps with values from
spec/95_test_vectors.md, and a witness for the hypotheses of each statement that has some. -/

namespace Sys2Proof.Tests

open Sys2Proof Sys2Proof.Machine Sys2Proof.Safety

/-! ## Helpers -/

/-- A 4-byte read. -/
def rd (off : Offset) : HostWord := .bus { dir := .read, off := off, size := 4, wdata := 0#32 }

/-- A 4-byte write. -/
def wr (off : Offset) (d : Word) : HostWord := .bus { dir := .write, off := off, size := 4, wdata := d }

/-- Profile PA of the vectors, open with CTRL 0x2F. -/
def pa : State := { State.reset with line := 0x68#32, ctrl := 0x2F#32 }

/-- Profile PC: stuffed, with an end marker. -/
def pc : State := { pa with prof0 := 0x7A1#32, prof1 := 0x03100210#32 }

/-- Profile PD: stuffed, one sync byte, XOR-8. -/
def pd : State := { pa with prof0 := 0x184#32, prof1 := 0x037D007E#32, prof2 := 0x00150003#32 }

/-- Profile PE: two sync bytes, two length bytes, big-endian. -/
def pe : State := { pa with prof0 := 0x79#32, prof1 := 0x031055AA#32, crc0 := 0xFFFF1021#32, crc1 := 0#32 }

/-- Profile PF: PC with one length byte. -/
def pf : State := { pa with prof0 := 0x7A5#32, prof1 := 0x03100210#32 }

/-- A clean character. -/
def ch (b : Byte) : Entry := { b := b, pe := false, se := false, brk := false, gap := false }

/-- The outcome is a next state with this property. -/
def nextIs (o : Host.Outcome State Fault Refusal) (p : State → Bool) : Bool :=
  match o with
  | .next t => p t
  | .fault _ => false
  | .refused _ => false

/-- The bytes 31 to 39 of the checksum vectors, from TXBUF[0] on. -/
def nineBytes : Memory :=
  [(0x100, 0x31#8), (0x101, 0x32#8), (0x102, 0x33#8), (0x103, 0x34#8), (0x104, 0x35#8), (0x105, 0x36#8),
   (0x106, 0x37#8), (0x107, 0x38#8), (0x108, 0x39#8)]

/-! ## Well-formedness: each check refuses an ill-formed term -/

theorem test_wf_undefined_below_0A : (Instr.undefined 0x09#8).wellFormed = false := by decide

theorem test_wf_plain_read_of_rxchar_or_oob :
    (Instr.rdReg .rxchar 0#2 .b4).wellFormed = false ∧ (Instr.rdReg .oob 0#2 .b4).wellFormed = false := by decide

theorem test_wf_wrRo_of_writable : (Instr.wrRo .ctrl 0#2 .b4 0#32).wellFormed = false := by decide

theorem test_wf_reserved_ranges :
    (Instr.wrReserved 0x054#12 .b4 0#32).wellFormed = false ∧ (Instr.wrReserved 0x100#12 .b4 0#32).wellFormed = false ∧
    (Instr.wrReserved 0x2FF#12 .b1 0#32).wellFormed = false ∧ (Instr.rdReservedHigh 0x2FF#12 .b1).wellFormed = false := by
  decide

theorem test_wf_data_wider_than_size :
    (Instr.wrTxbuf 0#8 .b1 0x100#32).wellFormed = false ∧ (Instr.wrRxbuf 0#8 .b2 0x10000#32).wellFormed = false ∧
    (Instr.wrCtrl 0#2 .b1 0x100#32).wellFormed = false ∧ (Instr.wrReserved 0x300#12 .b2 0x10000#32).wellFormed = false := by
  decide

/-! ## Decoding: words written out from R90, R91, R95 and the offsets of R71 -/

theorem test_decode_commands :
    decode (.cmd 0x00000000#32) = .ok .nop ∧ decode (.cmd 0x00000001#32) = .ok .srst ∧
    decode (.cmd 0x00010002#32) = .ok (.txframe 0x00#8 0x0001#16) ∧
    decode (.cmd 0x01000102#32) = .ok (.txframe 0x01#8 0x0100#16) ∧
    decode (.cmd 0x00000003#32) = .ok .txabort ∧ decode (.cmd 0x00000004#32) = .ok .rxrelease ∧
    decode (.cmd 0x00000005#32) = .ok .resync ∧ decode (.cmd 0x00000006#32) = .ok .rxflush := by decide

theorem test_decode_checksum_commands :
    decode (.cmd 0x00000007#32) = .ok .chkinit ∧ decode (.cmd 0x00000108#32) = .ok (.chkfeed 0x01#8) ∧
    decode (.cmd 0x0007FA09#32) = .ok (.chkfeedbuf 0xFA#8 0x0007#16) ∧
    decode (.cmd 0x0000000A#32) = .ok (.undefined 0x0A#8) ∧ decode (.cmd 0x000000FF#32) = .ok (.undefined 0xFF#8) := by
  decide

theorem test_decode_register_reads :
    decode (rd 0x000#12) = .ok (.rdReg .id 0#2 .b4) ∧ decode (rd 0x024#12) = .ok (.rdReg .status 0#2 .b4) ∧
    decode (rd 0x026#12) = .ok (.rdReg .status 2#2 .b4) ∧ decode (rd 0x030#12) = .ok (.rdRxchar 0#2 .b4) ∧
    decode (rd 0x038#12) = .ok (.rdOob 0#2 .b4) ∧ decode (rd 0x058#12) = .ok (.rdReg (.reserved 0) 0#2 .b4) ∧
    decode (rd 0x0FC#12) = .ok (.rdReg (.reserved 41) 0#2 .b4) ∧
    decode (rd 0x300#12) = .ok (.rdReservedHigh 0x300#12 .b4) := by decide

theorem test_decode_configuration_writes :
    decode (wr 0x004#12 5#32) = .ok (.wrCtrl 0#2 .b4 5#32) ∧ decode (wr 0x008#12 5#32) = .ok (.wrLine 0#2 .b4 5#32) ∧
    decode (wr 0x00C#12 5#32) = .ok (.wrProf0 0#2 .b4 5#32) ∧ decode (wr 0x010#12 5#32) = .ok (.wrProf1 0#2 .b4 5#32) ∧
    decode (wr 0x014#12 5#32) = .ok (.wrProf2 0#2 .b4 5#32) ∧ decode (wr 0x018#12 5#32) = .ok (.wrCrc0 0#2 .b4 5#32) ∧
    decode (wr 0x01C#12 5#32) = .ok (.wrCrc1 0#2 .b4 5#32) ∧ decode (wr 0x020#12 5#32) = .ok (.wrCmd 0#2 .b4 5#32) := by
  decide

theorem test_decode_other_register_writes :
    decode (wr 0x024#12 5#32) = .ok (.wrStatus 0#2 .b4 5#32) ∧ decode (wr 0x028#12 5#32) = .ok (.wrIen 0#2 .b4 5#32) ∧
    decode (wr 0x02C#12 5#32) = .ok (.wrTxchar 0#2 .b4 5#32) ∧ decode (wr 0x03C#12 5#32) = .ok (.wrChkacc 0#2 .b4 5#32) ∧
    decode (wr 0x040#12 5#32) = .ok (.wrCntok 0#2 .b4 5#32) ∧ decode (wr 0x044#12 5#32) = .ok (.wrCntchk 0#2 .b4 5#32) ∧
    decode (wr 0x048#12 5#32) = .ok (.wrCntfrm 0#2 .b4 5#32) ∧ decode (wr 0x04C#12 5#32) = .ok (.wrCntdisc 0#2 .b4 5#32) ∧
    decode (wr 0x054#12 5#32) = .ok (.wrRxto 0#2 .b4 5#32) := by decide

theorem test_decode_read_only_and_reserved_writes :
    decode (wr 0x000#12 5#32) = .ok (.wrRo .id 0#2 .b4 5#32) ∧ decode (wr 0x030#12 5#32) = .ok (.wrRo .rxchar 0#2 .b4 5#32) ∧
    decode (wr 0x034#12 5#32) = .ok (.wrRo .rxinfo 0#2 .b4 5#32) ∧ decode (wr 0x038#12 5#32) = .ok (.wrRo .oob 0#2 .b4 5#32) ∧
    decode (wr 0x050#12 5#32) = .ok (.wrRo .fifostat 0#2 .b4 5#32) ∧
    decode (wr 0x058#12 5#32) = .ok (.wrReserved 0x058#12 .b4 5#32) ∧
    decode (wr 0xFFF#12 5#32) = .ok (.wrReserved 0xFFF#12 .b4 5#32) := by decide

theorem test_decode_buffers :
    decode (rd 0x100#12) = .ok (.rdTxbuf 0x00#8 .b4) ∧ decode (rd 0x1FF#12) = .ok (.rdTxbuf 0xFF#8 .b4) ∧
    decode (wr 0x104#12 5#32) = .ok (.wrTxbuf 0x04#8 .b4 5#32) ∧ decode (rd 0x2FC#12) = .ok (.rdRxbuf 0xFC#8 .b4) ∧
    decode (wr 0x200#12 5#32) = .ok (.wrRxbuf 0x00#8 .b4 5#32) ∧
    decode (.bus { dir := .write, off := 0x101#12, size := 1, wdata := 0xABCD#32 }) = .ok (.wrTxbuf 0x01#8 .b1 0xCD#32) := by
  decide

theorem test_decode_refuses_other_sizes :
    decode (.bus { dir := .read, off := 0#12, size := 0, wdata := 0#32 }) = .error (.badSize 0) ∧
    decode (.bus { dir := .read, off := 0#12, size := 3, wdata := 0#32 }) = .error (.badSize 3) := by decide

theorem test_decodeTableWord :
    decodeTableWord 8 0x02 = some (.txframe 0#8 0#16) ∧ decodeTableWord 16 0x004 = some (.wrCtrl 0#2 .b4 0#32) ∧
    decodeTableWord 16 0x030 = some (.rdRxchar 0#2 .b4) ∧ decodeTableWord 32 0x0007FA09 = some (.chkfeedbuf 0xFA#8 7#16) := by
  decide

/-! ## Commands (95_test_vectors.md 2.2, 2.3, 2.4.2, 2.4.4) -/

theorem test_nop : nextIs (exec .nop pa) (· == { pa with resp := .done }) = true := by decide

theorem test_srst :
    nextIs (exec .srst { pa with ien := 3#32, fstate := .hold, sticky := 1#14, cntOk := 1#16, acc := 5#16, prof0 := 0x26#32 })
      (· == { pa with ctrl := 0x2E#32, ien := 3#32, prof0 := 0x26#32, resp := .done }) = true := by decide

theorem test_txframe_queues_the_wire_frame :
    nextIs (exec (.txframe 0#8 1#16) { pa with mem := [(0x100, 0x11#8)] })
      (fun t => t.txq == [0x02#8, 0x05#8, 0x11#8, 0x08#8, 0xCA#8] && t.txfr && t.sticky == 0#14) = true := by decide +kernel

theorem test_txframe_length_does_not_fit :
    nextIs (exec (.txframe 0#8 252#16) pa) (· == { pa with sticky := 0x100#14, resp := .done }) = true := by decide

theorem test_txabort_keeps_txsh :
    nextIs (exec .txabort { pa with txq := [0x08#8, 0xCA#8], txsh := some 0x11#8, txfr := true })
      (fun t => t.statusWord == 0x00100000#32 && t.txsh == some 0x11#8) = true := by decide

theorem test_rxrelease_hold :
    nextIs (exec .rxrelease { pa with fstate := .hold, rxinfo := 1#32 }) (· == { pa with rxinfo := 1#32, resp := .done }) = true := by
  decide

theorem test_rxrelease_refused : nextIs (exec .rxrelease pa) (fun t => t.statusWord == 0x100#32) = true := by decide

theorem test_resync_hold_refused :
    nextIs (exec .resync { pa with fstate := .hold, sticky := 1#14, rxfifo := [ch 2#8] })
      (fun t => t.statusWord == 0x00050101#32) = true := by decide

theorem test_resync_drops_the_lone_sync_byte :
    nextIs (exec .resync { pe with fstate := .sync, cand := { Candidate.cleared with ents := [ch 0xAA#8] } })
      (· == { pe with resp := .done }) = true := by decide

theorem test_rxflush :
    nextIs (exec .rxflush { pa with fstate := .hold, sticky := 0x101#14, rxfifo := [ch 2#8], rxinfo := 1#32 })
      (fun t => t.statusWord == 0x101#32 && t.fifostatWord == 0#32 && t.rxinfo == 1#32) = true := by decide

theorem test_chkinit_xor : nextIs (exec .chkinit { pd with prof2 := 0x0015FF00#32, acc := 0x1234#16 })
    (fun t => t.acc == 0x00FF#16) = true := by decide

theorem test_chkinit_crc : nextIs (exec .chkinit pe) (fun t => t.acc == 0xFFFF#16) = true := by decide

theorem test_chkfeed : nextIs (exec (.chkfeed 1#8) pa) (fun t => t.chkaccWord == 0x91881189#32) = true := by decide

theorem test_chkfeed_xor_keeps_the_high_byte :
    nextIs (exec (.chkfeed 15#8) { State.reset with prof0 := 4#32, acc := 0x12FF#16 })
      (fun t => t.chkaccWord == 0x12F000F0#32) = true := by decide

theorem test_chkfeedbuf :
    nextIs (exec (.chkfeedbuf 0#8 9#16) { State.reset with mem := nineBytes })
      (fun t => t.chkaccWord == 0x91842189#32) = true := by decide +kernel

theorem test_chkfeedbuf_past_the_end :
    nextIs (exec (.chkfeedbuf 250#8 7#16) pa) (· == { pa with sticky := 0x100#14, resp := .done }) = true := by decide

theorem test_undefined : nextIs (exec (.undefined 0xFF#8) pa) (· == { pa with sticky := 0x100#14, resp := .done }) = true := by
  decide

/-! ## Registers (95_test_vectors.md 2.1, 2.4.4, 2.5.5) -/

theorem test_rdReg_prof1 :
    nextIs (exec (.rdReg .prof1 0#2 .b4) State.reset) (fun t => t.resp == .data 0x03100002#32) = true := by decide

theorem test_rdReg_misaligned :
    nextIs (exec (.rdReg .status 2#2 .b4) pa) (· == { pa with resp := .error 0x026#12 }) = true := by decide

theorem test_wrCtrl_no_open :
    nextIs (exec (.wrCtrl 0#2 .b4 0xFFFFFFFE#32) State.reset) (fun t => t.ctrl == 0x7E#32) = true := by decide

/-- R124, where 95_test_vectors.md differs from the rule (notes/assumptions/16.md). -/
theorem test_wrCtrl_keeps_the_locked_fields_only :
    nextIs (exec (.wrCtrl 0#2 .b4 0x05#32) { pa with ctrl := 0x0F#32 })
      (fun t => t.ctrl == 0x0D#32 && t.sticky == 0x400#14) = true := by decide

theorem test_wrLine_mask :
    nextIs (exec (.wrLine 0#2 .b4 0xFFFFFFFF#32) State.reset) (fun t => t.line == 0x0007FFFF#32) = true := by decide

theorem test_wrProf0_locked :
    nextIs (exec (.wrProf0 0#2 .b4 0#32) pa) (· == { pa with sticky := 0x400#14, resp := .done }) = true := by decide

theorem test_wrProf0_mask :
    nextIs (exec (.wrProf0 0#2 .b4 0xFFFFFFFF#32) State.reset) (fun t => t.prof0 == 0x7FF#32) = true := by decide

theorem test_wrProf1_mask :
    nextIs (exec (.wrProf1 0#2 .b4 0xFFFFFFFF#32) State.reset) (fun t => t.prof1 == 0xFFFFFFFF#32) = true := by decide

theorem test_wrProf2_mask :
    nextIs (exec (.wrProf2 0#2 .b4 0xFFFFFFFF#32) State.reset) (fun t => t.prof2 == 0x01FFFFFF#32) = true := by decide

theorem test_wrCrc0 :
    nextIs (exec (.wrCrc0 0#2 .b4 0xFFFF8005#32) State.reset) (fun t => t.crc0 == 0xFFFF8005#32) = true := by decide

theorem test_wrCrc1_mask :
    nextIs (exec (.wrCrc1 0#2 .b4 0xFFFFFFFF#32) State.reset) (fun t => t.crc1 == 0x0003FFFF#32) = true := by decide

theorem test_wrCmd_performs :
    nextIs (exec (.wrCmd 0#2 .b4 0x00000108#32) pa) (fun t => t.chkaccWord == 0x91881189#32) = true := by decide

theorem test_wrCmd_bad_size :
    nextIs (exec (.wrCmd 0#2 .b2 0x1#32) pa) (· == { pa with resp := .error 0x020#12 }) = true := by decide

theorem test_wrStatus_clears_ones :
    nextIs (exec (.wrStatus 0#2 .b4 0xA0#32) { pa with ctrl := 7#32, sticky := 0xA0#14, rxfifo := [ch 0#8] })
      (fun t => t.statusWord == 0x00040000#32) = true := by decide

theorem test_wrIen_mask :
    nextIs (exec (.wrIen 0#2 .b4 0xFFFFFFFF#32) pa) (fun t => t.ien == 0x001C3FFF#32) = true := by decide

theorem test_wrRxto_mask :
    nextIs (exec (.wrRxto 0#2 .b4 0x12345678#32) pa) (fun t => t.rxto == 0x5678#32) = true := by decide

theorem test_wrTxchar_closed :
    nextIs (exec (.wrTxchar 0#2 .b4 0x41#32) State.reset) (fun t => t.statusWord == 0x100#32) = true := by decide

theorem test_wrTxchar_full :
    nextIs (exec (.wrTxchar 0#2 .b4 0x41#32) { pa with ctrl := 5#32, txq := List.replicate 16 0x41#8 })
      (fun t => t.statusWord == 0x00500200#32 && t.fifostatWord == 0x1000#32) = true := by decide

theorem test_rdRxchar_pops_with_gap :
    nextIs (exec (.rdRxchar 0#2 .b4) { pa with ctrl := 7#32, rxfifo := [{ ch 0x43#8 with gap := true }] })
      (fun t => t.resp == .data 0x80000843#32 && t.rxfifo == []) = true := by decide

theorem test_rdRxchar_frame_mode :
    nextIs (exec (.rdRxchar 0#2 .b4) { pa with rxfifo := [ch 2#8, ch 5#8] })
      (fun t => t.resp == .data 0#32 && t.rxfifo.length == 2) = true := by decide

theorem test_rdOob_pops :
    nextIs (exec (.rdOob 0#2 .b4) { pc with oobq := [{ byte := 6#8, escd := true }] })
      (fun t => t.resp == .data 0x80000106#32 && t.oobq == []) = true := by decide

theorem test_wrChkacc :
    nextIs (exec (.wrChkacc 0#2 .b4 0xABCD1234#32) pa) (fun t => t.chkaccWord == 0x12342C48#32) = true := by decide

theorem test_counter_writes_clear :
    nextIs (exec (.wrCntok 0#2 .b4 0x1234#32) { pa with cntOk := 5#16 }) (fun t => t.cntOk == 0#16) = true ∧
    nextIs (exec (.wrCntchk 0#2 .b4 0x1234#32) { pa with cntChk := 5#16 }) (fun t => t.cntChk == 0#16) = true ∧
    nextIs (exec (.wrCntfrm 0#2 .b4 0x1234#32) { pa with cntFrm := 5#16 }) (fun t => t.cntFrm == 0#16) = true ∧
    nextIs (exec (.wrCntdisc 0#2 .b4 0x1234#32) { pa with cntDisc := 5#16 }) (fun t => t.cntDisc == 0#16) = true := by
  decide

theorem test_wrRo_ignored : nextIs (exec (.wrRo .id 0#2 .b4 0#32) pa) (· == { pa with resp := .done }) = true := by decide

theorem test_wrReserved :
    nextIs (exec (.wrReserved 0x058#12 .b4 5#32) pa) (· == { pa with resp := .done }) = true ∧
    nextIs (exec (.wrReserved 0x058#12 .b2 5#32) pa) (· == { pa with resp := .error 0x058#12 }) = true := by decide

theorem test_rdReservedHigh :
    nextIs (exec (.rdReservedHigh 0xFFF#12 .b2) pa) (fun t => t.resp == .data 0#32) = true := by decide

/-! ## Buffers (95_test_vectors.md 2.1) -/

/-- TXBUF after the 4-byte write of 0x44332211 to 0x100. -/
def txWord : Memory := [(0x100, 0x11#8), (0x101, 0x22#8), (0x102, 0x33#8), (0x103, 0x44#8)]

theorem test_wrTxbuf_little_endian :
    nextIs (exec (.wrTxbuf 0#8 .b4 0x44332211#32) pa) (· == { pa with mem := txWord, resp := .done }) = true := by decide

theorem test_wrTxbuf_misaligned :
    nextIs (exec (.wrTxbuf 1#8 .b2 0#32) pa) (· == { pa with resp := .error 0x101#12 }) = true := by decide

theorem test_rdTxbuf_half :
    nextIs (exec (.rdTxbuf 2#8 .b2) { pa with mem := txWord }) (fun t => t.resp == .data 0x4433#32) = true := by decide

theorem test_rdTxbuf_misaligned :
    nextIs (exec (.rdTxbuf 2#8 .b4) pa) (· == { pa with resp := .error 0x102#12 }) = true := by decide

theorem test_rdRxbuf_unwritten :
    (match exec (.rdRxbuf 0#8 .b1) pa with
     | .fault r => r == .unwrittenByte 0x200
     | .next _ => false
     | .refused _ => false) = true := by decide

theorem test_rdRxbuf_byte :
    nextIs (exec (.rdRxbuf 0#8 .b1) { pa with mem := [(0x200, 0x11#8)] }) (fun t => t.resp == .data 0x11#32) = true := by decide

theorem test_wrRxbuf_ignored : nextIs (exec (.wrRxbuf 0#8 .b1 0x55#32) pa) (· == { pa with resp := .done }) = true := by decide

/-! ## Moves of the other agents (95_test_vectors.md 2.4, 2.5) -/

theorem test_txframe_T6_is_stuffed :
    pc.wireFrame 0#8 [0x11#8, 0x10#8, 0x03#8, 0x02#8] =
      [0x10#8, 0x02#8, 0x11#8, 0x10#8, 0x10#8, 0x03#8, 0x02#8, 0x10#8, 0x03#8, 0xEA#8, 0x92#8] := by decide +kernel

theorem test_txframe_T11_is_big_endian :
    pe.wireFrame 0#8 [1#8, 2#8] = [0xAA#8, 0x55#8, 0x00#8, 0x08#8, 0x01#8, 0x02#8, 0xE5#8, 0x8D#8] := by decide +kernel

theorem test_emit_ends_the_frame :
    (agentMove .emit { pa with txsh := some 0xCA#8, txfr := true }).statusWord = 0x8#32 ∧
    (agentMove .emit { pa with txsh := some 0xCA#8, txfr := true }).lineOut = [0xCA#8] := by decide

theorem test_line_overrun :
    agentMove (.line (ch 0x42#8)) { pa with ctrl := 7#32, rxfifo := List.replicate 64 (ch 0x41#8) } =
      { pa with ctrl := 7#32, rxfifo := List.replicate 64 (ch 0x41#8), gapPend := true, sticky := 0x10#14 } := by decide

theorem test_frx_accepts_the_last_checksum_byte :
    let s := { pa with
      fstate := .chk, rxfifo := [ch 0xCA#8]
      cand := { ents := [ch 2#8, ch 5#8, ch 0x11#8, ch 8#8], addr := 0#8, len := [5#8], pay := [0x11#8], chk := [8#8], nexp := some 1 } }
    (agentMove .frx s).statusWord = 0x00010001#32 ∧ (agentMove .frx s).mem = [(0x200, 0x11#8)] ∧
      (agentMove .frx s).rxinfo = 1#32 := by decide +kernel

theorem test_frx_checksum_error_replays :
    let s := { pa with
      fstate := .chk, rxfifo := [ch 0xCB#8]
      cand := { ents := [ch 2#8, ch 5#8, ch 0x11#8, ch 8#8], addr := 0#8, len := [5#8], pay := [0x11#8], chk := [8#8], nexp := some 1 } }
    (agentMove .frx s).replay = [ch 5#8, ch 0x11#8, ch 8#8, ch 0xCB#8] ∧ (agentMove .frx s).sticky = 2#14 ∧
      (agentMove .frx s).cntChk = 1#16 := by decide +kernel

theorem test_rxt_fails_the_candidate :
    let s := { pa with
      rxto := 4#32, fstate := .pay
      cand := { ents := [ch 2#8, ch 5#8], addr := 0#8, len := [5#8], pay := [], chk := [], nexp := some 1 } }
    (agentMove .rxt s).statusWord = 0x07000004#32 ∧ (agentMove .rxt s).replay = [ch 5#8] := by decide

theorem test_gap_cancels_a_pending_escape :
    let t := agentMove .frx { pc with escp := true, rxfifo := [{ ch 6#8 with gap := true }] }
    t.cntDisc = 2#16 ∧ t.oobq = [{ byte := 6#8, escd := false }] := by decide

theorem test_step_from_withFetchWord :
    nextIs (step (State.reset.withFetchWord 8 0xFF)) (fun t => t.sticky == 0x100#14 && t.sched == []) = true := by decide

/-! ## Witnesses: states and operands that meet the hypotheses of the statements, clause by clause -/

/-- A character error flagged by parity. -/
def chP (b : Byte) : Entry := { ch b with pe := true }

/-- PA within a candidate: sync, length and payload byte taken, one checksum byte missing. -/
def paChk : State :=
  { pa with
    fstate := .chk
    cand := { ents := [ch 2#8, ch 5#8, ch 0x11#8, ch 8#8], addr := 0#8, len := [5#8], pay := [0x11#8], chk := [8#8],
              nexp := some 1 } }

/-- PA while a failed candidate's tail is replayed. -/
def paReplay : State := { pa with replay := [ch 5#8, ch 0x11#8], cntFrm := 1#16, sticky := 4#14, frmCause := 7#4 }

theorem witness_StepRunsTheDecodedInstruction :
    let s := { pa with sched := [.host (.cmd 0x1#32), .load] }
    s.sched = .host (.cmd 0x1#32) :: [.load] ∧ s.resetIn = false ∧ decode (.cmd 0x1#32) = .ok .srst := by decide

theorem witness_StepOfTheOtherMoves :
    ({ pa with sched := [.load] }.sched = [.load] ∧ ∀ h, Move.load ≠ .host h) ∧ pa.sched = [] ∧
    ({ pa with sched := [.host (.cmd 0#32)], resetIn := true }.sched = [.host (.cmd 0#32)] ∧
      { pa with sched := [.host (.cmd 0#32)], resetIn := true }.resetIn = true) ∧
    ({ pa with sched := [.host (.bus ⟨.read, 0#12, 3, 0#32⟩)] }.sched = [.host (.bus ⟨.read, 0#12, 3, 0#32⟩)] ∧
      pa.resetIn = false ∧ 3 ≠ 1 ∧ 3 ≠ 2 ∧ 3 ≠ 4 ∧ 0 ≠ 1 ∧ 0 ≠ 2 ∧ 0 ≠ 4 ∧ 5 ≠ 1 ∧ 5 ≠ 2 ∧ 5 ≠ 4) := by
  refine ⟨⟨rfl, fun h e => ?_⟩, rfl, ⟨rfl, rfl⟩, rfl, ?_⟩
  · cases e
  · decide

/-- The clauses for a schedule that has run out: each of FRX, EMIT and LOAD is the first enabled one somewhere, and none is
enabled in `pa`. -/
theorem witness_StepOfTheOtherMoves_defaults :
    let f := { pa with rxfifo := [ch 2#8], txsh := some 1#8, txq := [1#8] }
    let e := { pa with txsh := some 1#8, txq := [1#8] }
    let l := { pa with txq := [1#8] }
    (f.sched = [] ∧ enabled .frx f) ∧ (e.sched = [] ∧ ¬enabled .frx e ∧ enabled .emit e) ∧
    (l.sched = [] ∧ ¬enabled .frx l ∧ ¬enabled .emit l ∧ enabled .load l) ∧
    (¬enabled .frx pa ∧ ¬enabled .emit pa ∧ ¬enabled .load pa) := by
  unfold enabled; decide

theorem witness_DecodeOfEncodeIsTheInstruction :
    (Instr.undefined 0x0A#8).wellFormed = true ∧ (Instr.undefined 0xFF#8).wellFormed = true ∧
    (Instr.rdReg (.reserved 41) 3#2 .b1).wellFormed = true ∧ (Instr.wrRo .oob 0#2 .b4 0xFFFFFFFF#32).wellFormed = true ∧
    (Instr.wrReserved 0x058#12 .b1 0xFF#32).wellFormed = true ∧ (Instr.wrReserved 0x0FF#12 .b2 0xFFFF#32).wellFormed = true ∧
    (Instr.wrReserved 0x300#12 .b4 0#32).wellFormed = true ∧ (Instr.rdReservedHigh 0xFFF#12 .b4).wellFormed = true ∧
    (Instr.wrTxbuf 0xFF#8 .b1 0xFF#32).wellFormed = true := by decide

theorem witness_CommandWordsFollowTheOpcodeMap : 0x0A#8 ≤ (0x0A#8 : Byte) ∧ 0x0A#8 ≤ (0xFF#8 : Byte) := by decide

theorem witness_CmdWritePerformsTheSelectedCommand :
    ((0x3#32 : Word).extractLsb' 0 8 ≠ 0x02#8 ∧ (0x3#32 : Word).extractLsb' 0 8 ≠ 0x09#8) ∧
    ((0xFF#32 : Word).extractLsb' 0 8 ≠ 0x02#8 ∧ (0xFF#32 : Word).extractLsb' 0 8 ≠ 0x09#8) ∧
    ¬(Size.b4 = .b4 ∧ 1#2 = 0#2) ∧ ¬(Size.b4 = .b4 ∧ 3#2 = 0#2) ∧ ¬(Size.b2 = .b4 ∧ 0#2 = 0#2) := by decide

/-- The bad size or alignment of every register access statement. -/
theorem witness_bad_register_access :
    ¬(Size.b4 = .b4 ∧ 1#2 = 0#2) ∧ ¬(Size.b4 = .b4 ∧ 3#2 = 0#2) ∧ ¬(Size.b1 = .b4 ∧ 0#2 = 0#2) ∧
    ¬(Size.b2 = .b4 ∧ 2#2 = 0#2) := by decide

theorem witness_SoftResetClearsAndKeeps : pa.en = true ∧ State.reset.en = false := by decide

theorem witness_TxframeChecksThenQueues :
    State.reset.en = false ∧ (0#16 : Half).toNat < 1 ∧ 256 < (257#16 : Half).toNat ∧
    (0 < pa.lenw ∧ (2 : Int) ^ (8 * pa.lenw) - 1 < (pa.ovh : Int) + (252#16 : Half).toNat - pa.lenAdj) ∧
    (0 < pa.lenw ∧ (({ pa with prof2 := 0x001500FF#32 }.ovh : Int) + (250#16 : Half).toNat -
      { pa with prof2 := 0x001500FF#32 }.lenAdj < 0)) ∧
    ¬(pa.en = false ∨ (251#16 : Half).toNat < 1 ∨ 256 < (251#16 : Half).toNat ∨
      (0 < pa.lenw ∧ ((pa.ovh : Int) + (251#16 : Half).toNat - pa.lenAdj < 0 ∨
        (2 : Int) ^ (8 * pa.lenw) - 1 < (pa.ovh : Int) + (251#16 : Half).toNat - pa.lenAdj))) ∧
    ¬(pc.en = false ∨ (256#16 : Half).toNat < 1 ∨ 256 < (256#16 : Half).toNat ∨ 0 < pc.lenw) ∧
    { pa with txfr := true }.txfr = true ∧ ¬(pa.txq ≠ [] ∨ pa.txsh ≠ none ∨ pa.txfr = true) ∧
    ([0x11#8] : List Byte).length = (1#16 : Half).toNat ∧ pa.mem.read (0x100 + 0) = none := by decide

theorem witness_TxframeChecksThenQueues_payload : holdsAt [(0x100, 0x11#8)] 0x100 [0x11#8] := by
  unfold holdsAt; decide

theorem witness_ReceiveCommandsActOnTheDecoder :
    { pa with fstate := .hold }.fstate = .hold ∧ paChk.fstate ≠ .hold := by decide

theorem witness_ChecksumCommandsActOnAcc :
    pd.prof0.getLsbD 5 = false ∧ pa.prof0.getLsbD 5 = true ∧ 256 < (255#8 : Byte).toNat + (2#16 : Half).toNat ∧
    (255#8 : Byte).toNat + (1#16 : Half).toNat ≤ 256 ∧ ([7#8] : List Byte).length = (1#16 : Half).toNat := by decide

theorem witness_ChecksumCommandsActOnAcc_bytes : holdsAt [(0x1FF, 7#8)] (0x100 + (255#8 : Byte).toNat) [7#8] := by
  unfold holdsAt; decide

theorem witness_ChecksumCommandsActOnAcc_unwritten :
    (255#8 : Byte).toNat + (1#16 : Half).toNat ≤ 256 ∧ 0 < (1#16 : Half).toNat ∧
    pa.mem.read (0x100 + (255#8 : Byte).toNat + 0) = none := by decide

theorem witness_StatusAndFifostatShowTheState :
    let s := { pa with rxfifo := List.replicate 64 (ch 0#8), oobq := List.replicate 8 { byte := 0#8, escd := true } }
    s.rxfifo.length ≤ 64 ∧ s.oobq.length ≤ 8 ∧ 28 ≤ 31 ∧ 3 < 4 ∧ 13 < 14 := by decide

theorem witness_LockedRegistersChangeOnlyWhileClosed : State.reset.en = false ∧ pa.en = true := by decide

theorem witness_LegalIsTheEightConditions : pa.legal = true ∧ pc.legal = true ∧ pd.legal = true ∧ State.reset.legal = false := by
  decide

theorem witness_CtrlWriteStoresOpensAndCloses :
    (State.reset.en = false ∧ (0xFFFFFFFE#32 : Word).getLsbD 0 = false) ∧
    ({ pa with ctrl := 0#32 }.en = false ∧ (1#32 : Word).getLsbD 0 = true ∧ { pa with ctrl := 0#32 }.legal = true) ∧
    (State.reset.en = false ∧ State.reset.legal = false) ∧
    (pa.en = true ∧ (0x0D#32 : Word).getLsbD 3 = pa.ctrl.getLsbD 3 ∧ (0x05#32 : Word).getLsbD 3 ≠ pa.ctrl.getLsbD 3 ∧
      (0x2E#32 : Word).getLsbD 0 = false) := by decide

theorem witness_TxcharWriteQueuesOneCharacter :
    let full := { pa with txq := List.replicate 16 0#8 }
    let room := { pa with txq := List.replicate 15 0#8 }
    State.reset.en = false ∧ (full.en = true ∧ 16 ≤ full.txq.length) ∧ { pa with txfr := true }.txfr = true ∧
    (room.en = true ∧ room.txfr = false ∧ room.txq.length < 16) := by decide

theorem witness_RxcharReadPopsInRawMode :
    let s := { pa with ctrl := 7#32, rxfifo := [ch 1#8] }
    pa.frmen = true ∧ pa.rxfifo = [] ∧ s.frmen = false ∧ s.rxfifo = ch 1#8 :: [] := by decide

theorem witness_OobReadPopsTheOldestRecord :
    let s := { pa with oobq := [{ byte := 6#8, escd := true }] }
    pa.oobq = [] ∧ s.oobq = { byte := 6#8, escd := true } :: [] := by decide

theorem witness_ReadOnlyAndReservedAccessesHaveNoEffect :
    0x300#12 ≤ (0x300#12 : Offset) ∧ 0x300#12 ≤ (0xFFF#12 : Offset) ∧
    (0x058#12 ≤ (0x0FC#12 : Offset) ∧ (0x0FC#12 : Offset) < 0x100#12 ∧ (0x0FC#12 : Offset).toNat % 4 = 0) ∧
    (0x058#12 ≤ (0x0FF#12 : Offset) ∧ (0x0FF#12 : Offset) < 0x100#12 ∧ ¬(Size.b4 = .b4 ∧ (0x0FF#12 : Offset).toNat % 4 = 0)) ∧
    ¬(Size.b2 = .b4 ∧ (0x058#12 : Offset).toNat % 4 = 0) ∧
    (0xFC#8 : Byte).toNat % Size.b4.bytes = 0 ∧ (0xFF#8 : Byte).toNat % Size.b2.bytes ≠ 0 := by decide

theorem witness_TxbufWriteStoresLittleEndianBytes :
    (0xFC#8 : Byte).toNat % Size.b4.bytes = 0 ∧ (0xFF#8 : Byte).toNat % Size.b1.bytes = 0 ∧
    (0xFE#8 : Byte).toNat % Size.b4.bytes ≠ 0 := by decide

theorem witness_BufferReadsAreLittleEndian :
    (0xFF#8 : Byte).toNat % Size.b1.bytes = 0 ∧ ([7#8] : List Byte).length = Size.b1.bytes ∧
    holdsAt [(0x1FF, 7#8), (0x2FF, 7#8)] (0x100 + (0xFF#8 : Byte).toNat) [7#8] ∧
    holdsAt [(0x1FF, 7#8), (0x2FF, 7#8)] (0x200 + (0xFF#8 : Byte).toNat) [7#8] ∧
    (0xFE#8 : Byte).toNat % Size.b4.bytes ≠ 0 ∧
    (pa.mem.read (0x100 + (0xFC#8 : Byte).toNat + 3) = none ∧ pa.mem.read (0x200 + (0xFC#8 : Byte).toNat + 3) = none) := by
  unfold holdsAt; decide

theorem witness_TxbufReadsSeeOverlappingWrites :
    (∃ t, exec (.wrTxbuf 0xFC#8 .b4 0x44332211#32) pa = .next t) ∧ (0xFC#8 : Byte).toNat % 4 = 0 ∧
    (0xFC#8 : Byte).toNat ≤ (0xFF#8 : Byte).toNat ∧ (0xFF#8 : Byte).toNat + Size.b1.bytes ≤ (0xFC#8 : Byte).toNat + 4 ∧
    (0xFF#8 : Byte).toNat % Size.b1.bytes = 0 := ⟨⟨_, rfl⟩, by decide⟩

theorem witness_BusErrorExactlyOnBadSizeOrAlignment :
    ((0x0FF#12 : Offset).toNat < 0x100 ∧ ¬(Size.b4 = .b4 ∧ (0x0FF#12 : Offset).toNat % 4 = 0)) ∧
    (0x100 ≤ (0x2FF#12 : Offset).toNat ∧ (0x2FF#12 : Offset).toNat < 0x300 ∧ (0x2FF#12 : Offset).toNat % Size.b2.bytes ≠ 0) ∧
    ¬(((0x0FC#12 : Offset).toNat < 0x100 ∧ ¬(Size.b4 = .b4 ∧ (0x0FC#12 : Offset).toNat % 4 = 0)) ∨
      (0x100 ≤ (0x0FC#12 : Offset).toNat ∧ (0x0FC#12 : Offset).toNat < 0x300 ∧ (0x0FC#12 : Offset).toNat % Size.b4.bytes ≠ 0)) ∧
    ¬(((0x301#12 : Offset).toNat < 0x100 ∧ ¬(Size.b4 = .b4 ∧ (0x301#12 : Offset).toNat % 4 = 0)) ∨
      (0x100 ≤ (0x301#12 : Offset).toNat ∧ (0x301#12 : Offset).toNat < 0x300 ∧ (0x301#12 : Offset).toNat % Size.b4.bytes ≠ 0)) := by
  decide

theorem witness_AccessesStopOnlyOnUnwrittenBytes :
    exec (.rdTxbuf 0xFF#8 .b1) pa = .fault (.unwrittenByte 0x1FF) ∧ readsByte (.rdTxbuf 0xFF#8 .b1) 0x1FF ∧
    pa.mem.read 0x1FF = none :=
  ⟨rfl, .inr (.inr (.inl ⟨_, _, rfl, by decide, by decide⟩)), by decide⟩

/-- An access that completes, for the statements about what no access does. -/
theorem witness_access_completes :
    pa.en = true ∧ (∃ t, exec (.wrTxbuf 0xFC#8 .b4 1#32) pa = .next t) ∧ (∃ t, exec (.wrCtrl 0#2 .b4 0#32) pa = .next t) ∧
    (∃ t, exec .srst pa = .next t) := ⟨by decide, ⟨_, rfl⟩, ⟨_, rfl⟩, ⟨_, rfl⟩⟩

theorem witness_InternalAgentsKeepHostRegisters : Move.frx ≠ .releaseReset ∧ Move.emit ≠ .releaseReset := by decide

theorem witness_FrameEnginesIgnoreAcc :
    Move.frx ≠ .releaseReset ∧ nextIs (exec (.txframe 0#8 1#16) { pa with mem := [(0x100, 0x11#8)] }) (fun _ => true) = true := by
  decide

theorem witness_OneChangedByteChangesTheChecksum :
    pd.crcAlg = false ∧ pa.poly.getLsbD 0 = true ∧ (0x11#8 : Byte) ≠ 0x10#8 := by decide

theorem witness_LogicalFrameHasItsFieldsAndLength :
    (pc.lenw ≤ 2 ∧ pa.lenw = 1 ∧ pe.lenw = 2 ∧ pe.lenbe = true ∧ { pe with prof0 := 0x69#32 }.lenbe = false) ∧
    (0 ≤ (pa.ovh : Int) + 251 - pa.lenAdj ∧ (pa.ovh : Int) + 251 - pa.lenAdj = 2 ^ (8 * pa.lenw) - 1) ∧
    (pd.crcAlg = false ∧ (pa.crcAlg = true ∧ pa.chkbe = false) ∧ (pe.crcAlg = true ∧ pe.chkbe = true)) ∧
    (pa.stuffed = false ∧ pc.stuffed = true ∧ pd.stuffed = true) := by decide

theorem witness_WireFrameFitsTheQueue : (List.replicate 256 (1#8 : Byte)).length ≤ 256 := by decide +kernel

theorem witness_LoadAndEmitMoveOneCharacter :
    let q := { pa with txq := [1#8] }
    let h := { pa with txsh := some 1#8 }
    let f := { pa with txsh := some 1#8, txfr := true }
    let l := { pa with ctrl := 0x1F#32, txsh := some 1#8 }
    (q.resetIn = false ∧ q.en = true ∧ q.txen = true ∧ q.txsh = none ∧ q.txq = 1#8 :: []) ∧ h.txsh ≠ none ∧
    (f.resetIn = false ∧ f.en = true ∧ f.txsh = some 1#8 ∧ f.loop = false ∧ f.txfr = true ∧ f.txq = []) ∧
    (h.txsh = some 1#8 ∧ ¬(h.txfr = true ∧ h.txq = [])) ∧
    (l.resetIn = false ∧ l.en = true ∧ l.txsh = some 1#8 ∧ l.loop = true) ∧ pa.txsh = none := by decide

theorem witness_QueuedFrameIsSentInOrder :
    let s := { pa with txq := [2#8, 5#8, 0x11#8, 8#8, 0xCA#8], txfr := true }
    s.resetIn = false ∧ s.en = true ∧ s.txen = true ∧ s.loop = false ∧ s.txfr = true ∧ s.txsh = none ∧ s.txq ≠ [] := by decide

/-- PA within a frame: one character is being sent, one is queued. -/
def paSending : State := { pa with txq := [0xCA#8], txsh := some 8#8, txfr := true }

theorem witness_Inv_paSending : Inv paSending := by
  refine ⟨?_, ?_, ?_, ?_, ?_, ?_, ?_, ?_, ?_⟩
  · unfold MemOk; decide
  · unfold ReservedZero; decide
  · unfold DepthsOk; decide
  · unfold ClosedQuiet; decide
  · unfold OpenLegal; decide
  · unfold TxOk; decide
  · unfold RawIdle; decide
  · unfold EntriesOk; decide
  · unfold DecoderOk; decide

theorem witness_QueuedFrameIsSentInOrder_any_schedule :
    Inv paSending ∧ paSending.resetIn = false ∧ paSending.en = true ∧ paSending.txen = true ∧ paSending.txfr = true ∧
    ∀ m ∈ [Move.line (ch 2#8), .frx, .rxt, .load, .emit, .emit], ofAgent m = true :=
  ⟨witness_Inv_paSending, by decide⟩

/-- With nothing scheduled the machine goes on sending by itself (R9). -/
theorem test_step_emits_when_nothing_is_scheduled :
    nextIs (step paSending) (fun t => t.lineOut == [8#8] && t.txsh == none && t.txfr) = true := by decide

/-- With nothing scheduled the machine decodes a received character by itself (R9). -/
theorem test_step_decodes_when_nothing_is_scheduled :
    nextIs (step { pa with rxfifo := [ch 2#8] }) (fun t => t.fstate == .len && t.rxfifo == []) = true := by decide

theorem witness_SampledCharactersAreAllowedEntries :
    { pa with line := 0x10068#32 }.parity = 1#2 ∧ { pa with line := 0x20068#32 }.parity = 2#2 ∧
    10 + pa.hasParity.toNat ≤ 10 ∧ 10 + { pa with line := 0x10068#32 }.hasParity.toNat ≤ 11 := by decide

/-- R108: a line held at 0 for three character times is one break entry, and the next start bit is found only after it has
returned to 1. -/
theorem test_held_line_is_one_break :
    pa.receiveLevels .waiting (List.replicate 30 false ++ [true] ++ pa.charBits 0x41#8) =
      [{ b := 0#8, pe := false, se := false, brk := true, gap := false }, ch 0x41#8] := by decide +kernel

theorem witness_ArrivingCharacterEntersRxfifo :
    let l := { pa with ctrl := 0x1F#32 }
    let full := { pa with rxfifo := List.replicate 64 (ch 0#8) }
    State.reset.en = false ∧ { pa with ctrl := 0x0B#32 }.rxen = false ∧ l.loop = true ∧ pa.loop = false ∧
    (pa.en = true ∧ pa.rxen = true ∧ (CharSource.ext = .loopback ↔ pa.loop = true) ∧ full.rxfifo.length = 64) ∧
    (l.en = true ∧ l.rxen = true ∧ (CharSource.loopback = .loopback ↔ l.loop = true) ∧ l.rxfifo.length ≠ 64) := by decide

/-- Entries LINE may and may not present, the one of notes/assumptions/20.md among those it may. -/
theorem witness_ArrivingCharacterEntersRxfifo_line :
    let may : State → Entry → Bool := fun s e => decide (e.gap = false ∧ (e.pe = true → s.parity = 1#2 ∨ s.parity = 2#2) ∧
      (e.brk = true → e.b = 0#8 ∧ e.pe = false ∧ e.se = false))
    pa.resetIn = false ∧ may pa (ch 0x41#8) = true ∧ may pa { ch 0#8 with se := true } = true ∧
    may pa { ch 0#8 with brk := true } = true ∧ may { pa with line := 0x10068#32 } (chP 1#8) = true ∧
    may pa (chP 1#8) = false ∧ may pa { ch 1#8 with brk := true } = false ∧ may pa { ch 1#8 with gap := true } = false ∧
    { pa with resetIn := true }.resetIn = true := by decide

theorem witness_UnstuffedHuntFindsTheSyncByte :
    let s := { pa with rxfifo := [ch 2#8] }
    let d := { pe with rxfifo := [ch 0xAA#8] }
    (s.resetIn = false ∧ s.en = true ∧ s.frmen = true ∧ s.stuffed = false ∧ s.fstate = .hunt ∧ s.replay = [] ∧
      s.rxfifo = ch 2#8 :: [] ∧ (ch 2#8).b = s.sync0 ∧ s.nsync = 1) ∧
    (d.stuffed = false ∧ d.fstate = .hunt ∧ d.rxfifo = ch 0xAA#8 :: [] ∧ (ch 0xAA#8).b = d.sync0 ∧ d.nsync = 2) ∧
    (chP 2#8).pe = true ∧ (ch 3#8).b ≠ s.sync0 := by decide

/-- The entry FRX takes: the head of REPLAY while it holds one, else the head of RXFIFO. -/
theorem witness_takesInput :
    takesInput { paReplay with rxfifo := [ch 9#8] } (ch 5#8) { paReplay with rxfifo := [ch 9#8], replay := [ch 0x11#8] } ∧
    takesInput { pa with rxfifo := [ch 2#8] } (ch 2#8) pa :=
  ⟨.inl ⟨_, rfl, rfl⟩, .inr ⟨rfl, _, rfl, rfl⟩⟩

theorem witness_UnstuffedHuntFindsTheSyncByte_replay :
    paReplay.resetIn = false ∧ paReplay.en = true ∧ paReplay.frmen = true ∧ paReplay.stuffed = false ∧
    paReplay.fstate = .hunt ∧ paReplay.replay = ch 5#8 :: [ch 0x11#8] ∧ (ch 5#8).b ≠ paReplay.sync0 := by decide

theorem witness_OutOfBandBytesAreCaptured :
    { pa with ctrl := 0xF#32 }.ooben = false ∧ pa.ooben = true ∧
    { pa with oobq := List.replicate 8 { byte := 0#8, escd := false } }.oobq.length = 8 ∧ pa.oobq.length ≠ 8 := by decide

theorem witness_UnstuffedSyncAndCandidateErrors :
    let y := { pe with fstate := .sync, rxfifo := [ch 0x55#8] }
    let c := { paChk with rxfifo := [{ chP 1#8 with gap := true }] }
    (y.resetIn = false ∧ y.en = true ∧ y.frmen = true ∧ y.stuffed = false ∧ y.replay = [] ∧ y.rxfifo = ch 0x55#8 :: [] ∧
      y.fstate = .sync ∧ (ch 0x55#8).b = y.sync1 ∧ (ch 0x54#8).b ≠ y.sync1) ∧
    (c.stuffed = false ∧ c.fstate.isCand = true ∧ { chP 1#8 with gap := true }.gap = true ∧ (chP 1#8).gap = false ∧
      (chP 1#8).pe = true) := by decide

theorem witness_UnstuffedSyncAndCandidateErrors_replay :
    let y := { pe with fstate := .sync, replay := [ch 0x54#8, ch 7#8] }
    takesInput y (ch 0x54#8) { y with replay := [ch 7#8] } ∧
    (y.resetIn = false ∧ y.en = true ∧ y.frmen = true ∧ y.stuffed = false ∧ y.fstate = .sync ∧ (ch 0x54#8).b ≠ y.sync1) :=
  ⟨.inl ⟨_, rfl, rfl⟩, by decide⟩

theorem witness_FramingErrorRecordsAndReplays : FailCause.length ≠ .checksum ∧ FailCause.overlong ≠ .checksum := by decide

theorem witness_ChecksumErrorCountsAndMayNak :
    let n := { pa with ctrl := 0x6F#32 }
    pa.autonak = false ∧ (n.autonak = true ∧ n.txq = [] ∧ n.txsh = none ∧ n.txfr = false) ∧
    ¬({ n with txfr := true }.txq = [] ∧ { n with txfr := true }.txsh = none ∧ { n with txfr := true }.txfr = false) := by decide

theorem witness_LastChecksumByteAcceptsOrFails :
    let c := paChk.checksum (paChk.chkRange paChk.cand.addr paChk.cand.len paChk.cand.pay)
    paChk.fstate = .chk ∧ paChk.cand.chk.length + 1 = paChk.chkw ∧ paChk.cand.pay.length ≤ 256 ∧
    paChk.chkVal (paChk.cand.chk ++ [0xCA#8]) = c ∧ paChk.chkVal (paChk.cand.chk ++ [0xCB#8]) ≠ c := by decide +kernel

theorem witness_CandidateFieldsFollowTheProfile :
    let a := { pa with fstate := .addr }
    let l := { pa with fstate := .len }
    let m := { pe with fstate := .len, cand := { Candidate.cleared with len := [1#8] } }
    let o := { pc with fstate := .pay, cand := { Candidate.cleared with pay := List.replicate 256 0#8 } }
    let p := { pa with fstate := .pay, cand := { Candidate.cleared with len := [6#8], nexp := some 2 } }
    a.fstate = .addr ∧
    (l.fstate = .len ∧ l.lenw = 1 ∧ l.cand.len = [] ∧ ((4#8 : Byte).toNat : Int) + l.lenAdj - l.ovh < 1 ∧
      1 ≤ ((5#8 : Byte).toNat : Int) + l.lenAdj - l.ovh ∧ ((5#8 : Byte).toNat : Int) + l.lenAdj - l.ovh ≤ 256) ∧
    (m.fstate = .len ∧ m.lenw = 2 ∧ m.cand.len = [1#8] ∧ m.lenbe = true ∧
      ((1 * 256 + 6 : Nat) : Int) + m.lenAdj - m.ovh = 256 ∧ 256 < ((1 * 256 + 7 : Nat) : Int) + m.lenAdj - m.ovh) ∧
    (pe.lenw = 2 ∧ pe.cand.len = []) ∧
    (o.fstate = .pay ∧ o.cand.nexp = none ∧ o.cand.pay.length = 256) ∧ pc.cand.pay.length < 256 ∧
    (p.fstate = .pay ∧ p.cand.nexp = some 2 ∧ p.cand.pay.length + 1 < 2) ∧ paChk.cand.pay.length + 1 = 2 ∧
    { pf with fstate := .trl }.fstate = .trl ∧
    (let k := { paChk with cand := { paChk.cand with chk := [] } }
     k.fstate = .chk ∧ k.cand.chk.length + 1 < k.chkw) := by decide +kernel

theorem witness_TokensFollowTheTable :
    let e := { pc with escp := true }
    let d := { pd with escp := true }
    (pc.legal = true ∧ pc.stuffed = true ∧ pc.escp = false ∧ (0x10#8 : Byte) = pc.esc) ∧
    (pd.legal = true ∧ pd.stuffed = true ∧ pd.escp = false ∧ (0x7E#8 : Byte) = pd.sync0 ∧ pd.nsync = 1) ∧
    ((0x41#8 : Byte) ≠ pc.esc ∧ ¬((0x41#8 : Byte) = pc.sync0 ∧ pc.nsync = 1)) ∧
    (e.escp = true ∧ (0x10#8 : Byte) = e.esc) ∧ (d.escp = true ∧ (0x7E#8 : Byte) = d.sync0 ∧ d.nsync = 1) ∧
    ((0x02#8 : Byte) = e.sync1 ∧ e.nsync = 2) ∧ ((0x03#8 : Byte) = e.etxb ∧ e.endmk = true) ∧
    ((0x06#8 : Byte) ≠ e.esc ∧ ¬((0x06#8 : Byte) = e.sync1 ∧ e.nsync = 2) ∧ ¬((0x06#8 : Byte) = e.etxb ∧ e.endmk = true)) := by
  decide

theorem witness_StuffedTokensActInAndOutsideCandidates :
    let e := { pc with escp := true }
    let p := { e with fstate := .pay }
    pc.token 0x10#8 = none ∧ (e.fstate.isCand = false ∧ e.token 0x02#8 = some .start) ∧
    e.token 0x10#8 = some (.data 0x10#8 true) ∧ pc.token 0x41#8 = some (.data 0x41#8 false) ∧
    e.token 0x03#8 = some .endMark ∧ e.token 0x06#8 = some (.badEsc 0x06#8) ∧
    (p.fstate.isCand = true ∧ p.token 0x02#8 = some .start ∧ p.token 0x06#8 = some (.badEsc 0x06#8) ∧
      p.token 0x10#8 = some (.data 0x10#8 true)) ∧
    ({ pf with fstate := .trl, escp := true }.fstate = .trl ∧ { pf with fstate := .trl, escp := true }.token 3#8 = some .endMark) ∧
    (p.cand.nexp = none ∧ p.cand.pay = [] ∧ p.token 0x03#8 = some .endMark) ∧
    ({ pf with fstate := .len, escp := true }.fstate = .len ∧
      { pf with fstate := .len, escp := true }.token 3#8 = some .endMark) := by decide

theorem witness_StuffedEntryGapThenFlagsThenToken :
    let s := { pc with rxfifo := [{ chP 6#8 with gap := true }] }
    let c := { pc with fstate := .pay, rxfifo := [chP 6#8] }
    let x := { pc with escp := true, rxfifo := [chP 6#8] }
    (s.resetIn = false ∧ s.en = true ∧ s.frmen = true ∧ s.stuffed = true ∧ s.fstate ≠ .hold ∧ s.replay = [] ∧
      s.rxfifo = { chP 6#8 with gap := true } :: []) ∧
    ((ch 6#8).pe = false ∧ (ch 6#8).se = false ∧ (ch 6#8).brk = false) ∧ (chP 6#8).pe = true ∧
    (c.fstate.isCand = true ∧ c.rxfifo = chP 6#8 :: []) ∧ (x.fstate.isCand = false ∧ x.escp = true) ∧
    (s.fstate.isCand = false ∧ s.escp = false) := by decide

theorem witness_StuffedEntryGapThenFlagsThenToken_input :
    takesInput { pc with rxfifo := [{ chP 6#8 with gap := true }] } { chP 6#8 with gap := true } pc :=
  .inr ⟨rfl, _, rfl, rfl⟩

theorem witness_ReceiveTimeoutAndRestingDecoder :
    let y := { pe with fstate := .sync, rxto := 1#32 }
    let c := { paChk with rxto := 0xFFFF#32 }
    (y.resetIn = false ∧ y.en = true ∧ y.frmen = true ∧ y.rxto.extractLsb' 0 16 ≠ 0#16 ∧ y.replay = [] ∧ y.rxfifo = [] ∧
      y.fstate = .sync) ∧
    (c.rxto.extractLsb' 0 16 ≠ 0#16 ∧ c.fstate.isCand = true) ∧ pa.rxto.extractLsb' 0 16 = 0#16 ∧
    { pa with ctrl := 7#32 }.frmen = false ∧ { pa with fstate := .hold }.fstate = .hold ∧ paReplay.replay ≠ [] := by decide

theorem witness_HeldFrameStaysStable :
    let s := { pa with fstate := .hold, sched := [.host (.cmd 4#32)] }
    s.fstate = .hold ∧ s.sched.head? ≠ some .releaseReset ∧ ∃ t, step s = .next t := ⟨by decide, by decide, ⟨_, rfl⟩⟩

theorem witness_HardwareResetGivesTheResetState : { pa with resetIn := true }.resetIn = true := by decide

theorem witness_WireFrameRoundTrip :
    let p : List Byte := [0x10#8, 0x02#8]
    pc.resetIn = false ∧ pc.en = true ∧ pc.rxen = true ∧ pc.frmen = true ∧ pc.loop = false ∧ pc.legal = true ∧
    pc.fstate = .hunt ∧ pc.escp = false ∧ pc.replay = [] ∧ pc.rxfifo = [] ∧ pc.gapPend = false ∧ 1 ≤ p.length ∧
    p.length ≤ 256 ∧ pc.lenw = 0 ∧
    (pa.legal = true ∧ pa.lenAdj ≤ pa.ovh + p.length ∧ pa.ovh + p.length - pa.lenAdj ≤ 2 ^ (8 * pa.lenw) - 1) := by decide

/-- paChk with its last checksum byte received and FRX to move. -/
def paFed : State := { paChk with rxfifo := [ch 0xCA#8], sched := [.frx] }

/-- The invariant holds in a state within a candidate. -/
theorem witness_Inv_paFed : Inv paFed := by
  refine ⟨?_, ?_, ?_, ?_, ?_, ?_, ?_, ?_, ?_⟩
  · unfold MemOk; decide
  · unfold ReservedZero; decide
  · unfold DepthsOk; decide
  · unfold ClosedQuiet; decide
  · unfold OpenLegal; decide
  · unfold TxOk; decide
  · unfold RawIdle; decide
  · unfold EntriesOk; decide
  · unfold DecoderOk; decide

theorem witness_Inv_paReplay : Inv paReplay := by
  refine ⟨?_, ?_, ?_, ?_, ?_, ?_, ?_, ?_, ?_⟩
  · unfold MemOk; decide
  · unfold ReservedZero; decide
  · unfold DepthsOk; decide
  · unfold ClosedQuiet; decide
  · unfold OpenLegal; decide
  · unfold TxOk; decide
  · unfold RawIdle; decide
  · unfold EntriesOk; decide
  · unfold DecoderOk; decide

theorem witness_ReplayStepsLowerTheMeasure :
    Inv paReplay ∧ paReplay.resetIn = false ∧ paReplay.frxEnabled = true ∧ paReplay.replay ≠ [] :=
  ⟨witness_Inv_paReplay, by decide, by decide, by decide⟩

/-- A run: the one character being sent leaves by the machine's own EMIT, and then nothing moves. -/
def lastEmit : Nat → State
  | 0 => { pa with txsh := some 8#8 }
  | _ + 1 => { pa with lineOut := [8#8] }

theorem lastEmit_rests : step { pa with lineOut := [8#8] } = .next { pa with lineOut := [8#8] } := rfl

theorem witness_EveryRunIsWeaklyFair : Inv (lastEmit 0) ∧ isRun lastEmit := by
  refine ⟨⟨?_, ?_, ?_, ?_, ?_, ?_, ?_, ?_, ?_⟩, fun n => ?_⟩
  · unfold MemOk; decide
  · unfold ReservedZero; decide
  · unfold DepthsOk; decide
  · unfold ClosedQuiet; decide
  · unfold OpenLegal; decide
  · unfold TxOk; decide
  · unfold RawIdle; decide
  · unfold EntriesOk; decide
  · unfold DecoderOk; decide
  · cases n with
    | zero => rfl
    | succ k => exact lastEmit_rests

theorem witness_EveryStepKeepsTheInvariant : Inv paFed ∧ ∃ t, step paFed = .next t := ⟨witness_Inv_paFed, _, rfl⟩

end Sys2Proof.Tests
end

/-! SUPPORT. One equation per outcome of the fetch, and what a step then is (00_scope.md R7 to R9, R16, R290). -/

namespace Sys2Proof.Machine

open Sys2Proof.Safety

/-! ## The fetch and the step -/

theorem fetch_host {s : State} {h : HostWord} {rest : List Move} (hs : s.sched = .host h :: rest) :
    fetch s = .host h { s with sched := rest } := by
  simp only [fetch, hs]

theorem fetch_agent {s : State} {m : Move} {rest : List Move} (hs : s.sched = m :: rest) (hm : ∀ h, m ≠ .host h) :
    fetch s = .agent m { s with sched := rest } := by
  cases m with
  | host h => exact absurd rfl (hm h)
  | _ => simp only [fetch, hs]

theorem fetch_internal {s : State} {m : Move} (hs : s.sched = []) (hm : internalMove s = some m) :
    fetch s = .agent m s := by
  simp only [fetch, hs, hm]

theorem fetch_idle {s : State} (hs : s.sched = []) (hm : internalMove s = none) : fetch s = .idle := by
  simp only [fetch, hs, hm]

theorem step_host {s : State} {h : HostWord} {rest : List Move} (hs : s.sched = .host h :: rest) :
    step s = hostStep h { s with sched := rest } := by
  rw [step, fetch_host hs]

theorem step_agent {s : State} {m : Move} {rest : List Move} (hs : s.sched = m :: rest) (hm : ∀ h, m ≠ .host h) :
    step s = .next (agentMove m { s with sched := rest }) := by
  rw [step, fetch_agent hs hm]

theorem step_internal {s : State} {m : Move} (hs : s.sched = []) (hm : internalMove s = some m) :
    step s = .next (agentMove m s) := by
  rw [step, fetch_internal hs hm]

theorem step_idle {s : State} (hs : s.sched = []) (hm : internalMove s = none) : step s = .next s := by
  rw [step, fetch_idle hs hm]

/-! ## A host access by itself -/

theorem hostStep_in_reset (h : HostWord) {s : State} (hr : s.resetIn = true) :
    hostStep h s = .fault .accessInReset := by
  rw [hostStep, if_pos hr]

theorem hostStep_of_decode {h : HostWord} {i : Instr} {s : State} (hr : s.resetIn = false) (hd : decode h = .ok i) :
    hostStep h s = exec i s := by
  simp only [hostStep, hr, hd, Bool.false_eq_true, if_false]

theorem hostStep_of_decode_error {h : HostWord} {e : DecodeError} {s : State} (hr : s.resetIn = false)
    (hd : decode h = .error e) : hostStep h s = .refused (.noSuchAccess e) := by
  simp only [hostStep, hr, hd, Bool.false_eq_true, if_false]

/-- Only 1, 2 and 4 are sizes of the bus (R16). -/
theorem decode_bus_badSize {a : BusAccess} (h1 : a.size ≠ 1) (h2 : a.size ≠ 2) (h4 : a.size ≠ 4) :
    decode (.bus a) = .error (.badSize a.size) := by
  have hb : Size.ofBytes a.size = .error (.badSize a.size) := by
    unfold Size.ofBytes
    split
    · exact absurd ‹_› h1
    · exact absurd ‹_› h2
    · exact absurd ‹_› h4
    · rfl
  simp only [decode, hb]

/-! ## The enabled steps of the internal agents, as the statements and as the model say them -/

theorem enabled_frx_iff (s : State) : enabled .frx s ↔ s.resetIn = false ∧ s.frxEnabled = true := by
  rw [State.frxEnabled_iff]
  rfl

theorem enabled_emit_iff (s : State) : enabled .emit s ↔ s.resetIn = false ∧ s.emitEnabled = true := by
  simp [enabled, State.emitEnabled, Option.isSome_iff_ne_none]

theorem enabled_load_iff (s : State) : enabled .load s ↔ s.resetIn = false ∧ s.loadEnabled = true := by
  simp [enabled, State.loadEnabled, and_assoc]

theorem internalMove_frx {s : State} (h : enabled .frx s) : internalMove s = some .frx := by
  obtain ⟨hr, hf⟩ := (enabled_frx_iff s).1 h
  simp [internalMove, hr, hf]

theorem internalMove_emit {s : State} (hf : ¬enabled .frx s) (h : enabled .emit s) : internalMove s = some .emit := by
  obtain ⟨hr, he⟩ := (enabled_emit_iff s).1 h
  have hf : s.frxEnabled = false := by simpa [enabled_frx_iff, hr] using hf
  simp [internalMove, hr, hf, he]

theorem internalMove_load {s : State} (hf : ¬enabled .frx s) (he : ¬enabled .emit s) (h : enabled .load s) :
    internalMove s = some .load := by
  obtain ⟨hr, hl⟩ := (enabled_load_iff s).1 h
  have hf : s.frxEnabled = false := by simpa [enabled_frx_iff, hr] using hf
  have he : s.emitEnabled = false := by simpa [enabled_emit_iff, hr] using he
  simp [internalMove, hr, hf, he, hl]

theorem internalMove_none_of_disabled {s : State} (hf : ¬enabled .frx s) (he : ¬enabled .emit s)
    (hl : ¬enabled .load s) : internalMove s = none := by
  rw [internalMove_none]
  cases hr : s.resetIn with
  | true => exact .inl rfl
  | false =>
    refine .inr ⟨?_, ?_, ?_⟩
    · simpa [enabled_frx_iff, hr] using hf
    · simpa [enabled_emit_iff, hr] using he
    · simpa [enabled_load_iff, hr] using hl

end Sys2Proof.Machine

namespace Sys2Proof.Proofs

open Sys2Proof.Machine Sys2Proof.Safety

/-- Settles O1. -/
theorem stepRunsTheDecodedInstruction : Obligations.StepRunsTheDecodedInstruction := by
  unfold Obligations.StepRunsTheDecodedInstruction
  intro s h rest i hs hr hd
  rw [step_host hs]
  exact hostStep_of_decode hr hd

/-- Settles O2, a clause per outcome of the fetch. -/
theorem stepOfTheOtherMoves : Obligations.StepOfTheOtherMoves := by
  unfold Obligations.StepOfTheOtherMoves
  refine ⟨fun s m rest hs hm => step_agent hs hm, fun s hs => ⟨?frx, ?emit, ?load, ?rest⟩, ?inReset, ?badSize⟩
  case frx => exact fun hf => step_internal hs (internalMove_frx hf)
  case emit => exact fun hf he => step_internal hs (internalMove_emit hf he)
  case load => exact fun hf he hl => step_internal hs (internalMove_load hf he hl)
  case rest => exact fun hf he hl => step_idle hs (internalMove_none_of_disabled hf he hl)
  case inReset =>
    intro s h rest hs hr
    rw [step_host hs]
    exact hostStep_in_reset h hr
  case badSize =>
    intro s a rest hs hr h1 h2 h4
    rw [step_host hs]
    exact hostStep_of_decode_error hr (decode_bus_badSize h1 h2 h4)

end Sys2Proof.Proofs

/-! SUPPORT. How an access can end: it completes and leaves the outside world's fields alone, or it stops on a byte that
it reads and nothing has written (00_scope.md R17; 60_exceptions.md R270; 70_reset_and_hazards.md R292). -/

namespace Sys2Proof.Machine

open Sys2Proof.Safety

/-- The fields that no access writes: LINEOUT, the reset input and the schedule. -/
structure AccessKeeps (s t : State) : Prop where
  lineOut : t.lineOut = s.lineOut
  resetIn : t.resetIn = s.resetIn
  sched : t.sched = s.sched

theorem AccessKeeps.refl (s : State) : AccessKeeps s s := ⟨rfl, rfl, rfl⟩

theorem AccessKeeps.signal (s : State) (x : Event) : AccessKeeps s (s.signal x) := ⟨rfl, rfl, rfl⟩

theorem AccessKeeps.writeCtrl (s : State) (w : Word) : AccessKeeps s (s.writeCtrl w) := by
  obtain ⟨c, k, h | ⟨_, h⟩⟩ := s.writeCtrl_cases w
  · rw [h]; exact ⟨rfl, rfl, rfl⟩
  · rw [h]; exact ⟨rfl, rfl, rfl⟩

theorem AccessKeeps.lockedWrite {s stored : State} (h : AccessKeeps s stored) :
    AccessKeeps s (s.lockedWrite stored) := by
  rcases s.lockedWrite_cases stored with ⟨_, e⟩ | ⟨_, e⟩
  · rw [e]; exact .signal s _
  · rw [e]; exact h

theorem AccessKeeps.queueChar (s : State) (v : Byte) : AccessKeeps s (s.queueChar v) := by
  rcases s.queueChar_cases v with ⟨_, e⟩ | ⟨_, _, e⟩ | ⟨_, _, e⟩
  · rw [e]; exact .signal s _
  · rw [e]; exact .signal s _
  · rw [e]; exact ⟨rfl, rfl, rfl⟩

/-- The ways an access of `s` that reads the offsets in `reads` can end. -/
def EndsWell (reads : Nat → Prop) (s : State) (o : Host.Outcome State Fault Refusal) : Prop :=
  (∃ t, o = .next t ∧ AccessKeeps s t) ∨
    (∃ off, o = .fault (.unwrittenByte off) ∧ reads off ∧ s.mem.read off = none)

namespace EndsWell

variable {reads reads' : Nat → Prop} {s t : State}

theorem mono {o : Host.Outcome State Fault Refusal} (h : EndsWell reads s o) (hr : ∀ off, reads off → reads' off) :
    EndsWell reads' s o := by
  obtain ⟨t, ht⟩ | ⟨off, ho, hoff, hm⟩ := h
  · exact .inl ⟨t, ht⟩
  · exact .inr ⟨off, ho, hr off hoff, hm⟩

theorem complete (h : AccessKeeps s t) : EndsWell reads s t.complete :=
  .inl ⟨_, rfl, h.lineOut, h.resetIn, h.sched⟩

theorem answer (v : Word) (h : AccessKeeps s t) : EndsWell reads s (t.answer v) :=
  .inl ⟨_, rfl, h.lineOut, h.resetIn, h.sched⟩

theorem busError (off : Offset) : EndsWell reads s (s.busError off) := .inl ⟨_, rfl, rfl, rfl, rfl⟩

/-- A register access ends as its effect does, which is reached only by a 4-byte access at the slot's own offset. -/
theorem regAccess {r : Reg} {lo : BitVec 2} {size : Size} {effect : Host.Outcome State Fault Refusal}
    (h : size = .b4 → lo = 0#2 → EndsWell reads s effect) : EndsWell reads s (s.regAccess r lo size effect) := by
  rcases s.regAccess_cases r lo size effect with ⟨⟨hs, hl⟩, e⟩ | ⟨_, e⟩
  · rw [e]; exact h hs hl
  · rw [e]; exact busError _

/-- An access that reads a range of bytes first: an unwritten byte of the range is the only stop it adds. -/
theorem of_readBytes {a n : Nat} {o : Host.Outcome State Fault Refusal} (hr : ∀ off, a ≤ off → off < a + n → reads off)
    (hok : ∀ p, s.mem.readBytes a n = .ok p → EndsWell reads s o)
    (herr : ∀ off, s.mem.readBytes a n = .error off → o = .fault (.unwrittenByte off)) : EndsWell reads s o := by
  cases h : s.mem.readBytes a n with
  | ok p => exact hok p h
  | error off =>
    obtain ⟨hnone, hlo, hhi⟩ := Memory.readBytes_error h
    exact .inr ⟨off, herr off h, hr off hlo hhi, hnone⟩

theorem readBuffer {page : BitVec 4} {i : Byte} {size : Size}
    (hr : ∀ off, 256 * page.toNat + i.toNat ≤ off → off < 256 * page.toNat + i.toNat + size.bytes → reads off) :
    EndsWell reads s (s.readBuffer page i size) := by
  have hoff : (bufferOffset page i).toNat = 256 * page.toNat + i.toNat := Laws.page_toNat page i
  unfold State.readBuffer
  split
  · refine of_readBytes (a := (bufferOffset page i).toNat) (by simpa only [hoff] using hr) (fun p h => ?_) fun off h => by
      simp only [h]
    simp only [h]
    exact answer _ (.refl s)
  · exact busError _

end EndsWell

/-! ## The commands -/

theorem execTxframe_endsWell (a : Byte) (n : Half) (s : State) :
    EndsWell (commandReads (.txframe a n)) s (execTxframe a n s) := by
  unfold execTxframe
  split
  · exact .complete (.signal s _)
  · split
    · exact .complete (.signal s _)
    · refine .of_readBytes (a := Config.txbufBase) (fun off hlo hhi => .inl ⟨a, n, rfl, hlo, hhi⟩) (fun p h => ?_)
        fun off h => by simp only [h]
      simp only [h]
      exact .complete ⟨rfl, rfl, rfl⟩

theorem execChkfeedbuf_endsWell (start : Byte) (n : Half) (s : State) :
    EndsWell (commandReads (.chkfeedbuf start n)) s (execChkfeedbuf start n s) := by
  unfold execChkfeedbuf
  split
  · exact .complete (.signal s _)
  · refine .of_readBytes (a := Config.txbufBase + start.toNat) (fun off hlo hhi => .inr ⟨start, n, rfl, hlo, hhi⟩)
      (fun p h => ?_) fun off h => by simp only [h]
    simp only [h]
    exact .complete ⟨rfl, rfl, rfl⟩

theorem execSrst_endsWell {reads : Nat → Prop} (s : State) : EndsWell reads s (execSrst s) := by
  refine .complete ?_
  cases s.en <;> exact ⟨rfl, rfl, rfl⟩

theorem execRxrelease_endsWell {reads : Nat → Prop} (s : State) : EndsWell reads s (execRxrelease s) := by
  unfold execRxrelease
  split
  · exact .complete ⟨rfl, rfl, rfl⟩
  · exact .complete (.signal s _)

theorem execResync_endsWell {reads : Nat → Prop} (s : State) : EndsWell reads s (execResync s) := by
  unfold execResync
  split
  · exact .complete (.signal s _)
  · exact .complete ⟨rfl, rfl, rfl⟩

/-- `perform` is exec of the command that the word decodes to (R134, R150). -/
theorem perform_eq_exec_decodeCmd (w : Word) (s : State) : perform w s = exec (decodeCmd w) s := by
  have opc_eq {k : Nat} (h : (w.extractLsb' 0 8).toNat = k) : w.extractLsb' 0 8 = BitVec.ofNat 8 k := by
    rw [← h, BitVec.ofNat_toNat, BitVec.setWidth_eq]
  have opc_ne {k : Nat} (hk : k < 256) (h : (w.extractLsb' 0 8).toNat ≠ k) : w.extractLsb' 0 8 ≠ BitVec.ofNat 8 k :=
    fun e => h (by rw [e, BitVec.toNat_ofNat, Nat.mod_eq_of_lt hk])
  unfold decodeCmd
  dsimp only
  split
  case h_11 h0 h1 h2 h3 h4 h5 h6 h7 h8 h9 =>
    simp only [perform, beq_iff_eq, opc_ne _ h0, opc_ne _ h1, opc_ne _ h2, opc_ne _ h3, opc_ne _ h4, opc_ne _ h5,
      opc_ne _ h6, opc_ne _ h7, opc_ne _ h8, opc_ne _ h9, Nat.reduceLT, if_false, exec]
  all_goals
    rename_i h
    simp only [perform, opc_eq h]
    rfl

/-- A command ends well; only TXFRAME and CHKFEEDBUF read bytes. -/
theorem exec_decodeCmd_endsWell (w : Word) (s : State) :
    EndsWell (commandReads (decodeCmd w)) s (exec (decodeCmd w) s) := by
  unfold decodeCmd
  dsimp only
  split
  · exact .complete (.refl s)
  · exact execSrst_endsWell s
  · exact execTxframe_endsWell _ _ s
  · exact .complete ⟨rfl, rfl, rfl⟩
  · exact execRxrelease_endsWell s
  · exact execResync_endsWell s
  · exact .complete ⟨rfl, rfl, rfl⟩
  · exact .complete ⟨rfl, rfl, rfl⟩
  · exact .complete ⟨rfl, rfl, rfl⟩
  · exact execChkfeedbuf_endsWell _ _ s
  · exact .complete (.signal s _)

/-! ## The register and buffer accesses with more than one way to complete -/

theorem execRdRxchar_endsWell {reads : Nat → Prop} (lo : BitVec 2) (size : Size) (s : State) :
    EndsWell reads s (execRdRxchar lo size s) := by
  refine .regAccess fun _ _ => ?_
  split
  · exact .answer _ (.refl s)
  · split
    · exact .answer _ (.refl s)
    · exact .answer _ ⟨rfl, rfl, rfl⟩

theorem execRdOob_endsWell {reads : Nat → Prop} (lo : BitVec 2) (size : Size) (s : State) :
    EndsWell reads s (execRdOob lo size s) := by
  refine .regAccess fun _ _ => ?_
  split
  · exact .answer _ (.refl s)
  · exact .answer _ ⟨rfl, rfl, rfl⟩

theorem execWrReserved_endsWell {reads : Nat → Prop} (off : Offset) (size : Size) (d : Word) (s : State) :
    EndsWell reads s (execWrReserved off size d s) := by
  unfold execWrReserved
  split
  · exact .complete (.refl s)
  · exact .busError _

theorem execWrTxbuf_endsWell {reads : Nat → Prop} (i : Byte) (size : Size) (d : Word) (s : State) :
    EndsWell reads s (execWrTxbuf i size d s) := by
  unfold execWrTxbuf
  split
  · exact .complete ⟨rfl, rfl, rfl⟩
  · exact .busError _

theorem execWrRxbuf_endsWell {reads : Nat → Prop} (i : Byte) (size : Size) (d : Word) (s : State) :
    EndsWell reads s (execWrRxbuf i size d s) := by
  unfold execWrRxbuf
  split
  · exact .complete (.refl s)
  · exact .busError _

/-- Every instruction ends well, row by row of the dispatch. -/
theorem exec_endsWell (i : Instr) (s : State) : EndsWell (readsByte i) s (exec i s) := by
  cases i with
  | nop => exact .complete (.refl s)
  | srst => exact execSrst_endsWell s
  | txframe a n => exact (execTxframe_endsWell a n s).mono fun _ => .inl
  | txabort => exact .complete ⟨rfl, rfl, rfl⟩
  | rxrelease => exact execRxrelease_endsWell s
  | resync => exact execResync_endsWell s
  | rxflush => exact .complete ⟨rfl, rfl, rfl⟩
  | chkinit => exact .complete ⟨rfl, rfl, rfl⟩
  | chkfeed d => exact .complete ⟨rfl, rfl, rfl⟩
  | chkfeedbuf start n => exact (execChkfeedbuf_endsWell start n s).mono fun _ => .inl
  | undefined opc => exact .complete (.signal s _)
  | rdReg r lo size => exact .regAccess fun _ _ => .answer _ (.refl s)
  | wrCtrl lo size d => exact .regAccess fun _ _ => .complete (.writeCtrl s d)
  | wrLine lo size d => exact .regAccess fun _ _ => .complete (.lockedWrite ⟨rfl, rfl, rfl⟩)
  | wrProf0 lo size d => exact .regAccess fun _ _ => .complete (.lockedWrite ⟨rfl, rfl, rfl⟩)
  | wrProf1 lo size d => exact .regAccess fun _ _ => .complete (.lockedWrite ⟨rfl, rfl, rfl⟩)
  | wrProf2 lo size d => exact .regAccess fun _ _ => .complete (.lockedWrite ⟨rfl, rfl, rfl⟩)
  | wrCrc0 lo size d => exact .regAccess fun _ _ => .complete (.lockedWrite ⟨rfl, rfl, rfl⟩)
  | wrCrc1 lo size d => exact .regAccess fun _ _ => .complete (.lockedWrite ⟨rfl, rfl, rfl⟩)
  | wrCmd lo size w =>
    refine .regAccess fun hs hl => ?_
    subst hs hl
    rw [perform_eq_exec_decodeCmd]
    exact (exec_decodeCmd_endsWell w s).mono fun _ h => .inr (.inl ⟨w, rfl, h⟩)
  | wrStatus lo size d => exact .regAccess fun _ _ => .complete ⟨rfl, rfl, rfl⟩
  | wrIen lo size d => exact .regAccess fun _ _ => .complete ⟨rfl, rfl, rfl⟩
  | wrTxchar lo size d => exact .regAccess fun _ _ => .complete (.queueChar s _)
  | rdRxchar lo size => exact execRdRxchar_endsWell lo size s
  | rdOob lo size => exact execRdOob_endsWell lo size s
  | wrChkacc lo size d => exact .regAccess fun _ _ => .complete ⟨rfl, rfl, rfl⟩
  | wrCntok lo size d => exact .regAccess fun _ _ => .complete ⟨rfl, rfl, rfl⟩
  | wrCntchk lo size d => exact .regAccess fun _ _ => .complete ⟨rfl, rfl, rfl⟩
  | wrCntfrm lo size d => exact .regAccess fun _ _ => .complete ⟨rfl, rfl, rfl⟩
  | wrCntdisc lo size d => exact .regAccess fun _ _ => .complete ⟨rfl, rfl, rfl⟩
  | wrRxto lo size d => exact .regAccess fun _ _ => .complete ⟨rfl, rfl, rfl⟩
  | wrRo r lo size d => exact .regAccess fun _ _ => .complete (.refl s)
  | wrReserved off size d => exact execWrReserved_endsWell off size d s
  | rdReservedHigh off size => exact .answer _ (.refl s)
  | rdTxbuf k size =>
    exact .readBuffer fun off hlo hhi => .inr (.inr (.inl ⟨k, size, rfl, hlo, hhi⟩))
  | wrTxbuf k size d => exact execWrTxbuf_endsWell k size d s
  | rdRxbuf k size =>
    exact .readBuffer fun off hlo hhi => .inr (.inr (.inr ⟨k, size, rfl, hlo, hhi⟩))
  | wrRxbuf k size d => exact execWrRxbuf_endsWell k size d s

/-- An access that completes leaves LINEOUT, the reset input and the schedule as they were. -/
theorem exec_keeps {i : Instr} {s t : State} (h : exec i s = .next t) : AccessKeeps s t := by
  obtain ⟨u, hu, hk⟩ | ⟨off, ho, _, _⟩ := exec_endsWell i s
  · obtain rfl : u = t := by rw [hu] at h; injection h
    exact hk
  · rw [ho] at h
    cases h

end Sys2Proof.Machine

namespace Sys2Proof.Proofs

open Sys2Proof.Machine Sys2Proof.Safety

/-- Settles O28, by the rows of the dispatch (`exec_endsWell`). -/
theorem accessesStopOnlyOnUnwrittenBytes : Obligations.AccessesStopOnlyOnUnwrittenBytes := by
  unfold Obligations.AccessesStopOnlyOnUnwrittenBytes
  intro i s
  obtain ⟨t, ht, _⟩ | hstop := exec_endsWell i s
  · exact .inl ⟨t, ht⟩
  · exact .inr hstop

end Sys2Proof.Proofs

/-! SUPPORT. What the frame decoder leaves alone, as one equation per operation: the state with every field that the
decoder may write blanked is the same before and after it (44_receive.md R220 to R245). -/

namespace Sys2Proof.Machine

/-- The state with the fields blanked that an operation of the frame decoder may write. -/
def State.outsideDecoder (s : State) : State :=
  { s with
    sticky := 0#14, frmCause := 0#4, rxinfo := 0#32, cntOk := 0#16, cntChk := 0#16, cntFrm := 0#16, cntDisc := 0#16
    mem := [], replay := [], fstate := .hunt, escp := false, cand := Candidate.cleared, oobq := [], txq := [] }

theorem State.rxfifo_of_outsideDecoder {s t : State} (h : t.outsideDecoder = s.outsideDecoder) : t.rxfifo = s.rxfifo :=
  show t.outsideDecoder.rxfifo = s.outsideDecoder.rxfifo by rw [h]

theorem State.sched_of_outsideDecoder {s t : State} (h : t.outsideDecoder = s.outsideDecoder) : t.sched = s.sched :=
  show t.outsideDecoder.sched = s.outsideDecoder.sched by rw [h]

theorem State.stuffed_of_outsideDecoder {s t : State} (h : t.outsideDecoder = s.outsideDecoder) :
    t.stuffed = s.stuffed :=
  show t.outsideDecoder.stuffed = s.outsideDecoder.stuffed by rw [h]

@[simp] theorem State.signal_outsideDecoder (s : State) (x : Event) :
    (s.signal x).outsideDecoder = s.outsideDecoder := rfl

@[simp] theorem State.discard_outsideDecoder (s : State) (k : Nat) :
    (s.discard k).outsideDecoder = s.outsideDecoder := rfl

@[simp] theorem State.start_outsideDecoder (s : State) : s.start.outsideDecoder = s.outsideDecoder := rfl

@[simp] theorem State.accept_outsideDecoder (s : State) : s.accept.outsideDecoder = s.outsideDecoder := rfl

@[simp] theorem State.oob_outsideDecoder (s : State) (v : Byte) (x : Bool) :
    (s.oob v x).outsideDecoder = s.outsideDecoder := by
  rcases s.oob_cases v x with e | ⟨_, e⟩ | ⟨_, _, e⟩
  · rw [e]
  · rw [e]; rfl
  · rw [e]; rfl

@[simp] theorem State.discardByte_outsideDecoder (s : State) (v : Byte) (x : Bool) :
    (s.discardByte v x).outsideDecoder = s.outsideDecoder := by
  rw [State.discardByte, State.oob_outsideDecoder, State.discard_outsideDecoder]

@[simp] theorem State.checksumError_outsideDecoder (s : State) :
    s.checksumError.outsideDecoder = s.outsideDecoder := by
  obtain ⟨k, q, e, _⟩ := s.checksumError_cases
  rw [e]
  rfl

@[simp] theorem State.fail_outsideDecoder (s : State) (k : FailCause) (pb : List Entry) :
    (s.fail k pb).outsideDecoder = s.outsideDecoder := by
  have report : (if k == .checksum then s.checksumError else s.framingError k).outsideDecoder = s.outsideDecoder := by
    split
    · exact s.checksumError_outsideDecoder
    · rfl
  have replayed (t : State) :
      (if t.stuffed then t else { t with replay := t.cand.ents.tail ++ pb ++ t.replay }).toHunt.outsideDecoder =
        t.outsideDecoder := by
    split <;> rfl
  exact (replayed _).trans report

@[simp] theorem State.verify_outsideDecoder (s : State) : s.verify.outsideDecoder = s.outsideDecoder := by
  rcases s.verify_cases with e | e
  · rw [e, State.accept_outsideDecoder]
  · rw [e, State.fail_outsideDecoder]

@[simp] theorem State.lenByte_outsideDecoder (s : State) (v : Byte) :
    (s.lenByte v).outsideDecoder = s.outsideDecoder := by
  unfold State.lenByte
  dsimp only
  split
  · split
    · exact State.fail_outsideDecoder _ _ _
    · rfl
  · rfl

@[simp] theorem State.payByte_outsideDecoder (s : State) (v : Byte) :
    (s.payByte v).outsideDecoder = s.outsideDecoder := by
  unfold State.payByte
  dsimp only
  split
  · split
    · exact State.fail_outsideDecoder _ _ _
    · rfl
  · split <;> rfl

@[simp] theorem State.chkByte_outsideDecoder (s : State) (v : Byte) :
    (s.chkByte v).outsideDecoder = s.outsideDecoder := by
  unfold State.chkByte
  dsimp only
  split
  · exact State.verify_outsideDecoder _
  · rfl

@[simp] theorem State.dataByte_outsideDecoder (s : State) (v : Byte) :
    (s.dataByte v).outsideDecoder = s.outsideDecoder := by
  unfold State.dataByte
  split
  case h_1 => rfl
  case h_2 => exact s.lenByte_outsideDecoder v
  case h_3 => exact s.payByte_outsideDecoder v
  case h_4 => exact s.fail_outsideDecoder _ _
  case h_5 => exact s.chkByte_outsideDecoder v
  all_goals rfl

@[simp] theorem State.plainHunt_outsideDecoder (s : State) (e : Entry) :
    (s.plainHunt e).outsideDecoder = s.outsideDecoder := by
  unfold State.plainHunt
  dsimp only
  split
  · rfl
  · split
    · split <;> rfl
    · exact s.discardByte_outsideDecoder _ _

@[simp] theorem State.plainSync_outsideDecoder (s : State) (e : Entry) :
    (s.plainSync e).outsideDecoder = s.outsideDecoder := by
  unfold State.plainSync
  split
  · exact s.discardByte_outsideDecoder s.sync0 false
  · rfl

@[simp] theorem State.plainCand_outsideDecoder (s : State) (e : Entry) :
    (s.plainCand e).outsideDecoder = s.outsideDecoder := by
  unfold State.plainCand
  split
  · exact s.fail_outsideDecoder _ _
  · split
    · exact s.fail_outsideDecoder _ _
    · exact State.dataByte_outsideDecoder _ _

/-- The decoder's step on an entry of an unstuffed profile, by what FSTATE is. -/
theorem State.plainStep_cases (s : State) (e : Entry) :
    (s.fstate = .hunt ∧ s.plainStep e = s.plainHunt e) ∨ (s.fstate = .sync ∧ s.plainStep e = s.plainSync e) ∨
      (s.fstate.isCand = true ∧ s.plainStep e = s.plainCand e) ∨ (s.fstate = .hold ∧ s.plainStep e = s) := by
  unfold State.plainStep
  cases s.fstate <;> simp [FState.isCand]

@[simp] theorem State.plainStep_outsideDecoder (s : State) (e : Entry) :
    (s.plainStep e).outsideDecoder = s.outsideDecoder := by
  rcases s.plainStep_cases e with ⟨_, h⟩ | ⟨_, h⟩ | ⟨_, h⟩ | ⟨_, h⟩
  · rw [h, State.plainHunt_outsideDecoder]
  · rw [h, State.plainSync_outsideDecoder]
  · rw [h, State.plainCand_outsideDecoder]
  · rw [h]

@[simp] theorem State.outside_outsideDecoder (s : State) (t : Token) :
    (s.outside t).outsideDecoder = s.outsideDecoder := by
  cases t with
  | start => rfl
  | data v escd => exact s.discardByte_outsideDecoder v escd
  | endMark => exact s.discardByte_outsideDecoder s.etxb true
  | badEsc v => exact s.discardByte_outsideDecoder v true

@[simp] theorem State.inCandidate_outsideDecoder (s : State) (t : Token) :
    (s.inCandidate t).outsideDecoder = s.outsideDecoder := by
  cases t with
  | start => exact s.fail_outsideDecoder _ _
  | data v escd => exact s.dataByte_outsideDecoder v
  | badEsc v => exact s.fail_outsideDecoder _ _
  | endMark =>
    simp only [State.inCandidate]
    split
    · rfl
    · split
      · split
        · exact s.fail_outsideDecoder _ _
        · rfl
      · exact s.fail_outsideDecoder _ _

@[simp] theorem State.stuffedGap_outsideDecoder (s : State) : s.stuffedGap.outsideDecoder = s.outsideDecoder := by
  unfold State.stuffedGap
  split
  · exact s.fail_outsideDecoder _ _
  · split <;> rfl

@[simp] theorem State.stuffedErr_outsideDecoder (s : State) : s.stuffedErr.outsideDecoder = s.outsideDecoder := by
  unfold State.stuffedErr
  dsimp only
  split
  · exact s.fail_outsideDecoder .char []
  · split <;> rfl

@[simp] theorem State.stuffedByte_outsideDecoder (s : State) (b : Byte) :
    (s.stuffedByte b).outsideDecoder = s.outsideDecoder := by
  unfold State.stuffedByte
  split
  · rfl
  · dsimp only
    split
    · exact State.inCandidate_outsideDecoder _ _
    · exact State.outside_outsideDecoder _ _

/-- The gap part of a stuffed step, taken where the entry has its gap flag. -/
def State.afterGap (s : State) (e : Entry) : State := if e.gap then s.stuffedGap else s

theorem State.stuffedStep_eq (s : State) (e : Entry) :
    s.stuffedStep e = if e.err then (s.afterGap e).stuffedErr else (s.afterGap e).stuffedByte e.b := rfl

@[simp] theorem State.afterGap_outsideDecoder (s : State) (e : Entry) :
    (s.afterGap e).outsideDecoder = s.outsideDecoder := by
  unfold State.afterGap
  split
  · exact s.stuffedGap_outsideDecoder
  · rfl

@[simp] theorem State.stuffedStep_outsideDecoder (s : State) (e : Entry) :
    (s.stuffedStep e).outsideDecoder = s.outsideDecoder := by
  rw [State.stuffedStep_eq]
  split
  · rw [State.stuffedErr_outsideDecoder, State.afterGap_outsideDecoder]
  · rw [State.stuffedByte_outsideDecoder, State.afterGap_outsideDecoder]

@[simp] theorem State.rxtStep_outsideDecoder (s : State) : s.rxtStep.outsideDecoder = s.outsideDecoder := by
  unfold State.rxtStep
  split
  · split
    · exact s.discardByte_outsideDecoder s.sync0 false
    · exact s.fail_outsideDecoder _ _
  · rfl

/-- Handling one entry, as the profile says (R222). -/
def State.handleEntry (s : State) (e : Entry) : State := if s.stuffed then s.stuffedStep e else s.plainStep e

@[simp] theorem State.handleEntry_outsideDecoder (s : State) (e : Entry) :
    (s.handleEntry e).outsideDecoder = s.outsideDecoder := by
  unfold State.handleEntry
  split
  · exact s.stuffedStep_outsideDecoder e
  · exact s.plainStep_outsideDecoder e

/-- An enabled step of FRX: the head of REPLAY is handled, or the head of RXFIFO when REPLAY is empty (R220, R222). -/
theorem State.frxStep_of_enabled {s : State} (h : s.frxEnabled = true) :
    (∃ e rest, s.replay = e :: rest ∧ s.frxStep = { s with replay := rest }.handleEntry e) ∨
    (∃ e rest, s.replay = [] ∧ s.rxfifo = e :: rest ∧ s.frxStep = { s with rxfifo := rest }.handleEntry e) := by
  rcases s.nextEntry_cases h with ⟨e, rest, hr, hn⟩ | ⟨e, rest, hr, hf, hn⟩
  · exact .inl ⟨e, rest, hr, by simp only [State.frxStep, h, hn, if_true]; rfl⟩
  · exact .inr ⟨e, rest, hr, hf, by simp only [State.frxStep, h, hn, if_true]; rfl⟩

end Sys2Proof.Machine

/-! SUPPORT. A step takes at most the head of the schedule, so the schedule of a run runs out (00_scope.md R8). -/

namespace Sys2Proof.Machine

open Sys2Proof.Safety

@[simp] theorem State.takeChar_sched (s : State) (e : Entry) : (s.takeChar e).sched = s.sched := by
  rcases s.takeChar_cases e with ⟨_, h⟩ | ⟨_, k, h⟩
  · rw [h]
  · rw [h]

@[simp] theorem State.arrive_sched (s : State) (e : Entry) (src : CharSource) : (s.arrive e src).sched = s.sched := by
  rcases s.arrive_cases e src with h | ⟨_, _, h⟩
  · rw [h]
  · rw [h, State.takeChar_sched]

@[simp] theorem State.lineStep_sched (s : State) (e : Entry) : (s.lineStep e).sched = s.sched := by
  unfold State.lineStep
  split
  · exact s.arrive_sched e .ext
  · rfl

@[simp] theorem State.endFrame_sched (s : State) : s.endFrame.sched = s.sched := by
  rcases s.endFrame_cases with ⟨_, _, h⟩ | ⟨_, h⟩
  · rw [h]; rfl
  · rw [h]

@[simp] theorem State.loadStep_sched (s : State) : s.loadStep.sched = s.sched := by
  rcases s.loadStep_cases with h | ⟨_, _, _, b, rest, _, h⟩
  · rw [h]
  · rw [h]

@[simp] theorem State.emitStep_sched (s : State) : s.emitStep.sched = s.sched := by
  rcases s.emitStep_cases with h | ⟨_, b, _, ⟨_, h⟩ | ⟨_, h⟩⟩
  · rw [h]
  · rw [h, State.endFrame_sched, State.loopDeliver, State.arrive_sched]
  · rw [h, State.endFrame_sched]

@[simp] theorem State.frxStep_sched (s : State) : s.frxStep.sched = s.sched := by
  cases hen : s.frxEnabled with
  | false => simp [State.frxStep, hen]
  | true =>
    rcases State.frxStep_of_enabled hen with ⟨e, rest, _, h⟩ | ⟨e, rest, _, _, h⟩
    · rw [h, State.sched_of_outsideDecoder (State.handleEntry_outsideDecoder _ e)]
    · rw [h, State.sched_of_outsideDecoder (State.handleEntry_outsideDecoder _ e)]

@[simp] theorem State.rxtStep_sched (s : State) : s.rxtStep.sched = s.sched :=
  State.sched_of_outsideDecoder s.rxtStep_outsideDecoder

@[simp] theorem State.releaseReset_sched (s : State) : s.releaseReset.sched = s.sched := by
  unfold State.releaseReset
  split <;> rfl

@[simp] theorem agentMove_sched (m : Move) (s : State) : (agentMove m s).sched = s.sched := by
  cases m with
  | host h => rfl
  | line e => simp only [agentMove, apply_ite State.sched, State.lineStep_sched, ite_self]
  | load => simp only [agentMove, apply_ite State.sched, State.loadStep_sched, ite_self]
  | emit => simp only [agentMove, apply_ite State.sched, State.emitStep_sched, ite_self]
  | frx => simp only [agentMove, apply_ite State.sched, State.frxStep_sched, ite_self]
  | rxt => simp only [agentMove, apply_ite State.sched, State.rxtStep_sched, ite_self]
  | assertReset => rfl
  | releaseReset => exact s.releaseReset_sched

/-- A host access that answers keeps the rest of the schedule. -/
theorem hostStep_sched {h : HostWord} {s t : State} (hstep : hostStep h s = .next t) : t.sched = s.sched := by
  unfold hostStep at hstep
  split at hstep
  · cases hstep
  · split at hstep
    · exact (exec_keeps hstep).sched
    · cases hstep

/-- A step takes the head of the schedule and leaves its rest. -/
theorem step_sched {s t : State} (hstep : step s = .next t) : t.sched = s.sched.tail := by
  rcases fetch_cases s with ⟨hs, hm, _⟩ | ⟨m, hs, hm, _⟩ | ⟨h, rest, hs, _⟩ | ⟨m, rest, hs, hm, _⟩
  · rw [step_idle hs hm] at hstep
    cases hstep
    rw [hs, List.tail_nil]
  · rw [step_internal hs hm] at hstep
    cases hstep
    rw [agentMove_sched, hs, List.tail_nil]
  · rw [step_host hs] at hstep
    rw [hostStep_sched hstep, hs, List.tail_cons]
  · rw [step_agent hs hm] at hstep
    cases hstep
    rw [agentMove_sched, hs, List.tail_cons]

theorem isRun_sched {r : Nat → State} (hr : isRun r) (n : Nat) : (r n).sched = (r 0).sched.drop n := by
  induction n with
  | zero => rw [List.drop_zero]
  | succ n ih => rw [step_sched (hr n), ih, List.tail_drop]

/-- From some step on the schedule of a run is empty. -/
theorem isRun_sched_eq_nil {r : Nat → State} (hr : isRun r) {n : Nat} (hn : (r 0).sched.length ≤ n) :
    (r n).sched = [] := by
  rw [isRun_sched hr, List.drop_eq_nil_of_le hn]

end Sys2Proof.Machine

/-! SUPPORT. FRX cannot go on for ever without new input: each of its steps lowers a well-founded measure, in every state.
So after the schedule EMIT and LOAD are not put off for ever (00_scope.md R9; 44_receive.md R242). -/

namespace Sys2Proof.Machine

open Sys2Proof.Safety

/-! ## What handling an entry does to CAND and REPLAY -/

/-- The entries that CAND and REPLAY hold together. -/
def State.held (s : State) : Nat := s.cand.ents.length + s.replay.length

/-- REPLAY is as it was, and CAND no longer than it was. -/
def KeepsEntries (s u : State) : Prop := u.replay = s.replay ∧ u.cand.ents.length ≤ s.cand.ents.length

theorem KeepsEntries.refl (s : State) : KeepsEntries s s := ⟨rfl, le_rfl⟩

theorem KeepsEntries.trans {s t u : State} (h1 : KeepsEntries s t) (h2 : KeepsEntries t u) : KeepsEntries s u :=
  ⟨h2.1.trans h1.1, h2.2.trans h1.2⟩

/-- The entries are kept, or CAND's tail went back to REPLAY, as an unstuffed profile does on a failure (R237). -/
def Retains (s u : State) : Prop :=
  KeepsEntries s u ∨ (s.stuffed = false ∧ u.cand.ents = [] ∧ u.replay = s.cand.ents.tail ++ s.replay)

theorem Retains.keepsEntries {s u : State} (h : Retains s u) (hs : s.stuffed = true) : KeepsEntries s u := by
  rcases h with h | ⟨h, _⟩
  · exact h
  · rw [hs] at h
    cases h

theorem Retains.held_le {s u : State} (h : Retains s u) : u.held ≤ s.held := by
  unfold State.held
  rcases h with ⟨hr, hc⟩ | ⟨_, hc, hr⟩
  · rw [hr]; omega
  · rw [hr, hc, List.length_append, List.length_tail, List.length_nil]; omega

theorem State.fail_retains (s : State) (k : FailCause) : Retains s (s.fail k []) := by
  obtain ⟨_, hc, _, hr⟩ := s.fail_decoder k []
  cases hs : s.stuffed with
  | true =>
    rw [hs, if_pos rfl] at hr
    exact .inl ⟨hr, by rw [hc]; exact Nat.zero_le _⟩
  | false =>
    rw [hs, if_neg Bool.false_ne_true, List.append_nil] at hr
    exact .inr ⟨hs, by rw [hc]; rfl, hr⟩

theorem State.accept_keepsEntries (s : State) : KeepsEntries s s.accept := ⟨rfl, Nat.zero_le _⟩

theorem State.discardByte_decoder (s : State) (v : Byte) (x : Bool) :
    (s.discardByte v x).cand = s.cand ∧ (s.discardByte v x).replay = s.replay := by
  rcases (s.discard (1 + x.toNat)).oob_cases v x with e | ⟨_, e⟩ | ⟨_, _, e⟩
  · rw [State.discardByte, e]; exact ⟨rfl, rfl⟩
  · rw [State.discardByte, e]; exact ⟨rfl, rfl⟩
  · rw [State.discardByte, e]; exact ⟨rfl, rfl⟩

theorem State.discardByte_keepsEntries (s : State) (v : Byte) (x : Bool) : KeepsEntries s (s.discardByte v x) := by
  obtain ⟨hc, hr⟩ := s.discardByte_decoder v x
  exact ⟨hr, by rw [hc]⟩

theorem State.verify_retains (s : State) : Retains s s.verify := by
  rcases s.verify_cases with e | e
  · rw [e]; exact .inl s.accept_keepsEntries
  · rw [e]; exact s.fail_retains _

theorem State.lenByte_retains (s : State) (v : Byte) : Retains s (s.lenByte v) := by
  unfold State.lenByte
  dsimp only
  split
  · split
    · exact State.fail_retains { s with cand := { s.cand with len := s.cand.len ++ [v] } } .length
    · exact .inl ⟨rfl, le_rfl⟩
  · exact .inl ⟨rfl, le_rfl⟩

theorem State.payByte_retains (s : State) (v : Byte) : Retains s (s.payByte v) := by
  unfold State.payByte
  dsimp only
  split
  · split
    · exact s.fail_retains _
    · exact .inl ⟨rfl, le_rfl⟩
  · split <;> exact .inl ⟨rfl, le_rfl⟩

theorem State.chkByte_retains (s : State) (v : Byte) : Retains s (s.chkByte v) := by
  unfold State.chkByte
  dsimp only
  split
  · exact State.verify_retains { s with cand := { s.cand with chk := s.cand.chk ++ [v] } }
  · exact .inl ⟨rfl, le_rfl⟩

theorem State.dataByte_retains (s : State) (v : Byte) : Retains s (s.dataByte v) := by
  unfold State.dataByte
  split
  case h_1 => exact .inl ⟨rfl, le_rfl⟩
  case h_2 => exact s.lenByte_retains v
  case h_3 => exact s.payByte_retains v
  case h_4 => exact s.fail_retains .endMark
  case h_5 => exact s.chkByte_retains v
  all_goals exact .inl (.refl s)

/-! ## A stuffed profile: no entry goes to CAND or back to REPLAY -/

theorem State.outside_keepsEntries (s : State) (t : Token) : KeepsEntries s (s.outside t) := by
  cases t with
  | start => exact ⟨rfl, le_rfl⟩
  | data v escd => exact s.discardByte_keepsEntries v escd
  | endMark => exact s.discardByte_keepsEntries s.etxb true
  | badEsc v => exact s.discardByte_keepsEntries v true

theorem State.inCandidate_keepsEntries {s : State} (hs : s.stuffed = true) (t : Token) :
    KeepsEntries s (s.inCandidate t) := by
  have hfail (k : FailCause) : KeepsEntries s (s.fail k []) := (s.fail_retains k).keepsEntries hs
  cases t with
  | start => exact hfail .restart
  | data v escd => exact (s.dataByte_retains v).keepsEntries hs
  | badEsc v => exact hfail .escape
  | endMark =>
    simp only [State.inCandidate]
    split
    · exact ⟨rfl, le_rfl⟩
    · split
      · split
        · exact hfail .length
        · exact ⟨rfl, le_rfl⟩
      · exact hfail .endMark

theorem State.afterGap_keepsEntries {s : State} (hs : s.stuffed = true) (e : Entry) :
    KeepsEntries s (s.afterGap e) := by
  unfold State.afterGap State.stuffedGap
  split
  · split
    · exact (s.fail_retains .gap).keepsEntries hs
    · split <;> exact ⟨rfl, le_rfl⟩
  · exact .refl s

theorem State.stuffedErr_keepsEntries {s : State} (hs : s.stuffed = true) : KeepsEntries s s.stuffedErr := by
  unfold State.stuffedErr
  dsimp only
  split
  · exact (s.fail_retains .char).keepsEntries hs
  · split <;> exact ⟨rfl, le_rfl⟩

theorem State.stuffedByte_keepsEntries {s : State} (hs : s.stuffed = true) (b : Byte) :
    KeepsEntries s (s.stuffedByte b) := by
  unfold State.stuffedByte
  split
  · exact ⟨rfl, le_rfl⟩
  · dsimp only
    split
    · exact State.inCandidate_keepsEntries (s := { s with escp := false }) hs _
    · exact State.outside_keepsEntries { s with escp := false } _

theorem State.stuffedStep_keepsEntries {s : State} (hs : s.stuffed = true) (e : Entry) :
    KeepsEntries s (s.stuffedStep e) := by
  have hgap := State.afterGap_keepsEntries hs e
  have hs' : (s.afterGap e).stuffed = true :=
    (State.stuffed_of_outsideDecoder (s.afterGap_outsideDecoder e)).trans hs
  rw [State.stuffedStep_eq]
  split
  · exact hgap.trans (State.stuffedErr_keepsEntries hs')
  · exact hgap.trans (State.stuffedByte_keepsEntries hs' e.b)

/-! ## Any profile: the entry is lost, moves to CAND, or is put back on the way to HUNT -/

/-- How handling one entry can end for CAND and REPLAY. An entry is put back though CAND is empty in no reachable state;
the step then leads to HUNT all the same, so that no invariant is needed here. -/
inductive EntryHandled (s u : State) : Prop where
  | taken (held_le : u.held ≤ s.held + 1) (replay_le : u.replay.length ≤ s.replay.length)
  | lost (held_le : u.held ≤ s.held)
  | putBack (ents_nil : s.cand.ents = []) (from_cand : s.fstate ≠ .hunt) (to_hunt : u.fstate = .hunt)
      (held_le : u.held ≤ s.held + 1) (replay_le : u.replay.length ≤ s.replay.length + 1)

theorem KeepsEntries.entryHandled {s u : State} (h : KeepsEntries s u) : EntryHandled s u :=
  .lost (Retains.held_le (.inl h))

/-- The entry is put back, with no more of CAND than its tail (R224, R237). -/
theorem EntryHandled.of_putBack {s u : State} (hs : s.fstate ≠ .hunt) (hu : u.fstate = .hunt) (hc : u.cand.ents = [])
    (hr : u.replay.length ≤ (s.cand.ents.length - 1) + 1 + s.replay.length) : EntryHandled s u := by
  have hheld : u.held = u.replay.length := by rw [State.held, hc, List.length_nil, Nat.zero_add]
  cases hents : s.cand.ents with
  | nil =>
    rw [hents, List.length_nil] at hr
    exact .putBack hents hs hu (by rw [hheld, State.held]; omega) (by omega)
  | cons c rest =>
    rw [hents, List.length_cons] at hr
    exact .lost (by rw [hheld, State.held, hents, List.length_cons]; omega)

theorem State.fail_entryHandled {s : State} (hs : s.fstate ≠ .hunt) (k : FailCause) (e : Entry) :
    EntryHandled s (s.fail k [e]) := by
  obtain ⟨hf, hc, _, hr⟩ := s.fail_decoder k [e]
  refine .of_putBack hs hf (by rw [hc]; rfl) ?_
  rw [hr]
  split
  · omega
  · simp only [List.length_append, List.length_tail, List.length_singleton, le_refl]

theorem State.plainHunt_entryHandled (s : State) (e : Entry) : EntryHandled s (s.plainHunt e) := by
  unfold State.plainHunt
  dsimp only
  split
  · exact KeepsEntries.entryHandled ⟨rfl, le_rfl⟩
  · split
    · split <;> exact .taken (by simp [State.held, Nat.add_comm]) le_rfl
    · exact (s.discardByte_keepsEntries e.b false).entryHandled

theorem State.plainSync_entryHandled {s : State} (hs : s.fstate ≠ .hunt) (e : Entry) :
    EntryHandled s (s.plainSync e) := by
  obtain ⟨_, hr⟩ := s.discardByte_decoder s.sync0 false
  unfold State.plainSync
  dsimp only
  split
  · refine .of_putBack hs rfl rfl ?_
    rw [hr, List.length_cons]
    omega
  · exact .taken (by simp [State.held, Nat.add_right_comm]) le_rfl

/-- The entry is appended to CAND, and what follows retains the entries. -/
theorem EntryHandled.of_append {s u : State} {e : Entry}
    (h : Retains { s with cand := { s.cand with ents := s.cand.ents ++ [e] } } u) : EntryHandled s u := by
  rcases h with ⟨hr, hc⟩ | ⟨_, hc, hr⟩
  · have hlen : u.replay.length = s.replay.length := congrArg List.length hr
    rw [List.length_append, List.length_singleton] at hc
    exact .taken (by rw [State.held, State.held]; omega) hlen.le
  · refine .lost ?_
    rw [State.held, State.held, hc, hr]
    simp only [List.length_append, List.length_tail, List.length_singleton, List.length_nil]
    omega

theorem State.plainCand_entryHandled {s : State} (hs : s.fstate ≠ .hunt) (e : Entry) :
    EntryHandled s (s.plainCand e) := by
  unfold State.plainCand
  split
  · exact State.fail_entryHandled hs .gap e
  · split
    · exact State.fail_entryHandled hs .char e
    · exact .of_append (State.dataByte_retains _ e.b)

theorem State.plainStep_entryHandled (s : State) (e : Entry) : EntryHandled s (s.plainStep e) := by
  rcases s.plainStep_cases e with ⟨_, h⟩ | ⟨hs, h⟩ | ⟨hs, h⟩ | ⟨_, h⟩
  · rw [h]; exact s.plainHunt_entryHandled e
  · rw [h]; exact State.plainSync_entryHandled (by rw [hs]; decide) e
  · rw [h]; exact State.plainCand_entryHandled (fun hunt => by rw [hunt] at hs; cases hs) e
  · rw [h]; exact (KeepsEntries.refl s).entryHandled

theorem State.handleEntry_entryHandled (s : State) (e : Entry) : EntryHandled s (s.handleEntry e) := by
  unfold State.handleEntry
  split
  · exact (State.stuffedStep_keepsEntries ‹_› e).entryHandled
  · exact s.plainStep_entryHandled e

/-! ## The measure -/

/-- FRX's measure: the input not yet taken, then the entries held (R242), then those waiting in REPLAY, then whether the
decoder has left HUNT. -/
def State.frxMeasure (s : State) : ℕ ×ₗ ℕ ×ₗ ℕ ×ₗ ℕ :=
  toLex (s.rxfifo.length, toLex (s.held, toLex (s.replay.length, if s.fstate = .hunt then 0 else 1)))

theorem State.frxMeasure_lt_of_rxfifo {s u : State} (h : u.rxfifo.length < s.rxfifo.length) :
    u.frxMeasure < s.frxMeasure :=
  Prod.Lex.toLex_lt_toLex.2 (.inl h)

theorem State.frxMeasure_lt_of_held {s u : State} (hf : u.rxfifo = s.rxfifo) (h : u.held < s.held) :
    u.frxMeasure < s.frxMeasure :=
  Prod.Lex.toLex_lt_toLex.2 (.inr ⟨congrArg List.length hf, Prod.Lex.toLex_lt_toLex.2 (.inl h)⟩)

theorem State.frxMeasure_lt_of_replay {s u : State} (hf : u.rxfifo = s.rxfifo) (hh : u.held ≤ s.held)
    (h : u.replay.length < s.replay.length) : u.frxMeasure < s.frxMeasure := by
  rcases hh.lt_or_eq with hh | hh
  · exact State.frxMeasure_lt_of_held hf hh
  · exact Prod.Lex.toLex_lt_toLex.2 (.inr ⟨congrArg List.length hf,
      Prod.Lex.toLex_lt_toLex.2 (.inr ⟨hh, Prod.Lex.toLex_lt_toLex.2 (.inl h)⟩)⟩)

theorem State.frxMeasure_lt_of_hunt {s u : State} (hf : u.rxfifo = s.rxfifo) (hh : u.held ≤ s.held)
    (hr : u.replay.length ≤ s.replay.length) (hs : s.fstate ≠ .hunt) (hu : u.fstate = .hunt) :
    u.frxMeasure < s.frxMeasure := by
  rcases hr.lt_or_eq with hr | hr
  · exact State.frxMeasure_lt_of_replay hf hh hr
  rcases hh.lt_or_eq with hh | hh
  · exact State.frxMeasure_lt_of_held hf hh
  · refine Prod.Lex.toLex_lt_toLex.2 (.inr ⟨congrArg List.length hf,
      Prod.Lex.toLex_lt_toLex.2 (.inr ⟨hh, Prod.Lex.toLex_lt_toLex.2 (.inr ⟨hr, ?_⟩)⟩)⟩)
    simp only [hs, hu, if_true, if_false, Nat.zero_lt_one]

/-- An enabled step of FRX lowers the measure, whatever the state. -/
theorem State.frxStep_lowers {s : State} (hen : s.frxEnabled = true) : s.frxStep.frxMeasure < s.frxMeasure := by
  rcases State.frxStep_of_enabled hen with ⟨e, rest, hs, hstep⟩ | ⟨e, rest, _, hs, hstep⟩
  · rw [hstep]
    have hrep : s.replay.length = rest.length + 1 := by rw [hs, List.length_cons]
    have hheld : s.held = State.held { s with replay := rest } + 1 := by
      simp only [State.held, hrep, Nat.add_assoc]
    have hfifo := State.rxfifo_of_outsideDecoder (State.handleEntry_outsideDecoder { s with replay := rest } e)
    cases State.handleEntry_entryHandled { s with replay := rest } e with
    | taken hh hr => exact State.frxMeasure_lt_of_replay hfifo (by omega) (by dsimp only at hr; omega)
    | lost hh => exact State.frxMeasure_lt_of_held hfifo (by omega)
    | putBack _ hne hhunt hh hr =>
      exact State.frxMeasure_lt_of_hunt hfifo (by omega) (by dsimp only at hr; omega) hne hhunt
  · rw [hstep]
    refine State.frxMeasure_lt_of_rxfifo ?_
    rw [State.rxfifo_of_outsideDecoder (State.handleEntry_outsideDecoder { s with rxfifo := rest } e), hs]
    exact Nat.lt_succ_self _

/-! ## After the schedule -/

/-- Once the schedule has run out, an enabled internal step is the next one, or FRX's is. -/
theorem takes_or_frx {m : Move} {s : State} (hs : s.sched = []) (hen : enabled m s) :
    takes m s ∨ enabled .frx s := by
  by_cases hf : enabled .frx s
  · exact .inr hf
  refine .inl ⟨s, fetch_internal hs ?_⟩
  cases m with
  | frx => exact absurd hen hf
  | emit => exact internalMove_emit hf hen
  | load =>
    have he : ¬enabled .emit s := by
      intro ⟨_, _, hbusy⟩
      obtain ⟨_, _, _, hidle, _⟩ := hen
      exact hbusy hidle
    exact internalMove_load hf he hen
  | _ => exact hen.elim

/-- After the schedule an enabled step of FRX is made, and lowers the measure. -/
theorem step_frx_lowers {s t : State} (hs : s.sched = []) (hf : enabled .frx s) (hstep : step s = .next t) :
    t.frxMeasure < s.frxMeasure := by
  obtain ⟨hr, hen⟩ := (enabled_frx_iff s).1 hf
  rw [step_internal hs (internalMove_frx hf)] at hstep
  cases hstep
  rw [agentMove, hr, if_neg Bool.false_ne_true]
  exact State.frxStep_lowers hen

/-- No run takes steps of FRX alone for ever after its schedule. -/
theorem isRun_exists_not_frx {r : Nat → State} (hr : isRun r) {N : Nat} (hN : (r 0).sched.length ≤ N) :
    ∃ j, N ≤ j ∧ ¬enabled .frx (r j) := by
  obtain ⟨n, hn⟩ := WellFounded.not_rel_apply_succ (r := (· < ·)) fun n => (r (N + n)).frxMeasure
  refine ⟨N + n, Nat.le_add_right N n, fun hf => hn ?_⟩
  exact step_frx_lowers (isRun_sched_eq_nil hr (by omega)) hf (hr (N + n))

end Sys2Proof.Machine

namespace Sys2Proof.Proofs

open Sys2Proof.Machine Sys2Proof.Safety

/-- Settles O58: after the schedule only a step of FRX can come before the one that stays enabled, and FRX's steps lower a
well-founded measure. The invariant is not needed. -/
theorem everyRunIsWeaklyFair : Obligations.EveryRunIsWeaklyFair := by
  unfold Obligations.EveryRunIsWeaklyFair
  intro r _ hr m k hen
  obtain ⟨j, hj, hnot⟩ := isRun_exists_not_frx hr (le_max_right k (r 0).sched.length)
  have hkj : k ≤ j := (le_max_left k _).trans hj
  have hsched : (r j).sched = [] := isRun_sched_eq_nil hr ((le_max_right k _).trans hj)
  exact ⟨j, hkj, (takes_or_frx hsched (hen j hkj)).resolve_right hnot⟩

end Sys2Proof.Proofs

/-! SUPPORT. What an access can do to the state, said once: the state it leaves, apart from the answer of the bus, is one
of those listed (40_register_ops.md, 41_commands.md). What no access does follows by cases. -/

namespace Sys2Proof.Machine

/-- The state that SRST leaves, before the answer (R152). -/
def State.softReset (s : State) : State :=
  { (if s.en then s.close else s) with
    sticky := 0#14, frmCause := 0#4, rxinfo := 0#32, acc := 0#16
    cntOk := 0#16, cntChk := 0#16, cntFrm := 0#16, cntDisc := 0#16 }

/-- `Effect i s u`: instruction `i` in state `s` can leave the state `u`, the answer of the bus not yet given. -/
inductive Effect (i : Instr) (s : State) : State → Prop
  | same : Effect i s s
  | event (x : Event) : Effect i s (s.signal x)
  | clearEvents (ones : BitVec 14) : Effect i s (s.clearEvents ones)
  | softReset : Effect i s s.softReset
  | frame (a : Byte) (p : List Byte) (hen : s.en = true) (hlen : p.length ≤ Config.bufSize) :
      Effect i s { s with txq := s.wireFrame a p, txfr := true }
  | abort : Effect i s { s with txq := [], txfr := false }
  | release (hf : s.fstate = .hold) : Effect i s { s with fstate := .hunt }
  | resync : Effect i s { s with fstate := .hunt, escp := false, cand := Candidate.cleared }
  | flush : Effect i s s.dropReceived
  | acc (x : Half) : Effect i s { s with acc := x }
  | ctrl (w : Word) : Effect i s (s.writeCtrl w)
  | line (w : Word) (hen : s.en = false) : Effect i s { s with line := w &&& 0x0007FFFF#32 }
  | prof0 (w : Word) (hen : s.en = false) : Effect i s { s with prof0 := w &&& 0x000007FF#32 }
  | prof1 (w : Word) (hen : s.en = false) : Effect i s { s with prof1 := w &&& 0xFFFFFFFF#32 }
  | prof2 (w : Word) (hen : s.en = false) : Effect i s { s with prof2 := w &&& 0x01FFFFFF#32 }
  | crc0 (w : Word) (hen : s.en = false) : Effect i s { s with crc0 := w &&& 0xFFFFFFFF#32 }
  | crc1 (w : Word) (hen : s.en = false) : Effect i s { s with crc1 := w &&& 0x0003FFFF#32 }
  | ien (w : Word) : Effect i s { s with ien := w &&& 0x001C3FFF#32 }
  | rxto (w : Word) : Effect i s { s with rxto := w &&& 0x0000FFFF#32 }
  | queued (v : Byte) (hen : s.en = true) (hroom : s.txFull = false) : Effect i s { s with txq := s.txq ++ [v] }
  | popChar (e : Entry) (rest : List Entry) (hf : s.rxfifo = e :: rest) : Effect i s { s with rxfifo := rest }
  | popOob (r : OobRec) (rest : List OobRec) (ho : s.oobq = r :: rest) : Effect i s { s with oobq := rest }
  | counters (ok chk frm disc : Half) :
      Effect i s { s with cntOk := ok, cntChk := chk, cntFrm := frm, cntDisc := disc }
  | store (j : Byte) (size : Size) (d : Word) (hi : i = .wrTxbuf j size d) (ha : bufferOk j size = true) :
      Effect i s { s with mem := s.mem.writeBytes (bufferOffset 1#4 j).toNat (leBytes size.bytes d) }

theorem Effect.lockedWrite {i : Instr} {s stored : State} (h : s.en = false → Effect i s stored) :
    Effect i s (s.lockedWrite stored) := by
  rcases s.lockedWrite_cases stored with ⟨_, e⟩ | ⟨hen, e⟩
  · rw [e]; exact .event .cfgerr
  · rw [e]; exact h hen

theorem Effect.queueChar {i : Instr} (s : State) (v : Byte) : Effect i s (s.queueChar v) := by
  rcases s.queueChar_cases v with ⟨_, e⟩ | ⟨_, _, e⟩ | ⟨hen, hroom, e⟩
  · rw [e]; exact .event .cmderr
  · rw [e]; exact .event .busyerr
  · rw [e]; exact .queued v hen hroom

/-- An outcome in which `i` completes has one of its effects, and the answer of the bus beside it. -/
def HasEffect (i : Instr) (s : State) (o : Host.Outcome State Fault Refusal) : Prop :=
  ∀ t, o = .next t → ∃ u r, Effect i s u ∧ t = { u with resp := r }

namespace HasEffect

variable {i : Instr} {s u : State}

theorem complete (h : Effect i s u) : HasEffect i s u.complete := by
  rintro t ⟨⟩
  exact ⟨u, .done, h, rfl⟩

theorem answer (v : Word) (h : Effect i s u) : HasEffect i s (u.answer v) := by
  rintro t ⟨⟩
  exact ⟨u, .data v, h, rfl⟩

theorem busError (off : Offset) : HasEffect i s (s.busError off) := by
  rintro t ⟨⟩
  exact ⟨s, .error off, .same, rfl⟩

theorem fault (f : Fault) : HasEffect i s (.fault f) := by
  rintro t ⟨⟩

theorem regAccess {r : Reg} {lo : BitVec 2} {size : Size} {effect : Host.Outcome State Fault Refusal}
    (h : HasEffect i s effect) : HasEffect i s (s.regAccess r lo size effect) := by
  rcases s.regAccess_cases r lo size effect with ⟨_, e⟩ | ⟨_, e⟩
  · rw [e]; exact h
  · rw [e]; exact busError _

theorem readBuffer (page : BitVec 4) (j : Byte) (size : Size) : HasEffect i s (s.readBuffer page j size) := by
  rcases s.readBuffer_cases page j size with ⟨_, e⟩ | ⟨_, bs, _, e⟩ | ⟨_, a, _, e⟩
  · rw [e]; exact busError _
  · rw [e]; exact answer _ .same
  · rw [e]; exact fault _

end HasEffect

/-! ## The commands -/

/-- What an accepted TXFRAME has checked (R153). -/
theorem State.txframeIllegal_eq_false {s : State} {n : Nat} (h : s.txframeIllegal n = false) :
    s.en = true ∧ 1 ≤ n ∧ n ≤ Config.bufSize ∧ s.lenFits n = true := by
  simpa [State.txframeIllegal, and_assoc, Nat.one_le_iff_ne_zero] using h

theorem execTxframe_hasEffect {i : Instr} (a : Byte) (n : Half) (s : State) : HasEffect i s (execTxframe a n s) := by
  unfold execTxframe
  split
  · exact .complete (.event _)
  next hlegal =>
    obtain ⟨hen, _, hn, _⟩ := State.txframeIllegal_eq_false (Bool.eq_false_iff.2 hlegal)
    split
    · exact .complete (.event _)
    · split
      next p hp =>
        obtain ⟨hlen, _⟩ := Memory.readBytes_spec hp
        exact .complete (.frame a p hen (hlen.trans_le hn))
      next => exact .fault _

theorem execChkfeedbuf_hasEffect {i : Instr} (start : Byte) (n : Half) (s : State) :
    HasEffect i s (execChkfeedbuf start n s) := by
  unfold execChkfeedbuf
  split
  · exact .complete (.event _)
  · split
    · exact .complete (.acc _)
    · exact .fault _

theorem execRxrelease_hasEffect {i : Instr} (s : State) : HasEffect i s (execRxrelease s) := by
  unfold execRxrelease
  split
  next hf => exact .complete (.release (beq_iff_eq.1 hf))
  next => exact .complete (.event _)

theorem execResync_hasEffect {i : Instr} (s : State) : HasEffect i s (execResync s) := by
  unfold execResync
  split
  · exact .complete (.event _)
  · exact .complete .resync

theorem exec_decodeCmd_hasEffect {i : Instr} (w : Word) (s : State) : HasEffect i s (exec (decodeCmd w) s) := by
  unfold decodeCmd
  dsimp only
  split
  · exact .complete .same
  · exact .complete .softReset
  · exact execTxframe_hasEffect _ _ s
  · exact .complete .abort
  · exact execRxrelease_hasEffect s
  · exact execResync_hasEffect s
  · exact .complete .flush
  · exact .complete (.acc _)
  · exact .complete (.acc _)
  · exact execChkfeedbuf_hasEffect _ _ s
  · exact .complete (.event _)

/-! ## The register and buffer accesses with more than one way to complete -/

theorem execRdRxchar_hasEffect {i : Instr} (lo : BitVec 2) (size : Size) (s : State) :
    HasEffect i s (execRdRxchar lo size s) := by
  refine .regAccess ?_
  split
  · exact .answer _ .same
  · split
    next => exact .answer _ .same
    next e rest hf => exact .answer _ (.popChar e rest hf)

theorem execRdOob_hasEffect {i : Instr} (lo : BitVec 2) (size : Size) (s : State) :
    HasEffect i s (execRdOob lo size s) := by
  refine .regAccess ?_
  split
  next => exact .answer _ .same
  next r rest ho => exact .answer _ (.popOob r rest ho)

theorem execWrReserved_hasEffect {i : Instr} (off : Offset) (size : Size) (d : Word) (s : State) :
    HasEffect i s (execWrReserved off size d s) := by
  unfold execWrReserved
  split
  · exact .complete .same
  · exact .busError _

theorem execWrTxbuf_hasEffect (j : Byte) (size : Size) (d : Word) (s : State) :
    HasEffect (.wrTxbuf j size d) s (execWrTxbuf j size d s) := by
  unfold execWrTxbuf
  split
  next ha => exact .complete (.store j size d rfl ha)
  next => exact .busError _

theorem execWrRxbuf_hasEffect {i : Instr} (j : Byte) (size : Size) (d : Word) (s : State) :
    HasEffect i s (execWrRxbuf j size d s) := by
  unfold execWrRxbuf
  split
  · exact .complete .same
  · exact .busError _

/-- Every instruction has one of the effects listed, row by row of the dispatch. -/
theorem exec_hasEffect (i : Instr) (s : State) : HasEffect i s (exec i s) := by
  cases i with
  | nop => exact .complete .same
  | srst => exact .complete .softReset
  | txframe a n => exact execTxframe_hasEffect a n s
  | txabort => exact .complete .abort
  | rxrelease => exact execRxrelease_hasEffect s
  | resync => exact execResync_hasEffect s
  | rxflush => exact .complete .flush
  | chkinit => exact .complete (.acc _)
  | chkfeed d => exact .complete (.acc _)
  | chkfeedbuf start n => exact execChkfeedbuf_hasEffect start n s
  | undefined opc => exact .complete (.event _)
  | rdReg r lo size => exact .regAccess (.answer _ .same)
  | wrCtrl lo size d => exact .regAccess (.complete (.ctrl d))
  | wrLine lo size d => exact .regAccess (.complete (.lockedWrite (.line d)))
  | wrProf0 lo size d => exact .regAccess (.complete (.lockedWrite (.prof0 d)))
  | wrProf1 lo size d => exact .regAccess (.complete (.lockedWrite (.prof1 d)))
  | wrProf2 lo size d => exact .regAccess (.complete (.lockedWrite (.prof2 d)))
  | wrCrc0 lo size d => exact .regAccess (.complete (.lockedWrite (.crc0 d)))
  | wrCrc1 lo size d => exact .regAccess (.complete (.lockedWrite (.crc1 d)))
  | wrCmd lo size w =>
    refine .regAccess ?_
    rw [perform_eq_exec_decodeCmd]
    exact exec_decodeCmd_hasEffect w s
  | wrStatus lo size d => exact .regAccess (.complete (.clearEvents _))
  | wrIen lo size d => exact .regAccess (.complete (.ien d))
  | wrTxchar lo size d => exact .regAccess (.complete (.queueChar s _))
  | rdRxchar lo size => exact execRdRxchar_hasEffect lo size s
  | rdOob lo size => exact execRdOob_hasEffect lo size s
  | wrChkacc lo size d => exact .regAccess (.complete (.acc _))
  | wrCntok lo size d => exact .regAccess (.complete (.counters _ _ _ _))
  | wrCntchk lo size d => exact .regAccess (.complete (.counters _ _ _ _))
  | wrCntfrm lo size d => exact .regAccess (.complete (.counters _ _ _ _))
  | wrCntdisc lo size d => exact .regAccess (.complete (.counters _ _ _ _))
  | wrRxto lo size d => exact .regAccess (.complete (.rxto d))
  | wrRo r lo size d => exact .regAccess (.complete .same)
  | wrReserved off size d => exact execWrReserved_hasEffect off size d s
  | rdReservedHigh off size => exact .answer _ .same
  | rdTxbuf j size => exact .readBuffer 1#4 j size
  | wrTxbuf j size d => exact execWrTxbuf_hasEffect j size d s
  | rdRxbuf j size => exact .readBuffer 2#4 j size
  | wrRxbuf j size d => exact execWrRxbuf_hasEffect j size d s

/-- What an access that completes leaves: one of its effects, and the answer of the bus. -/
theorem exec_effect {i : Instr} {s t : State} (h : exec i s = .next t) :
    ∃ u r, Effect i s u ∧ t = { u with resp := r } :=
  exec_hasEffect i s t h

end Sys2Proof.Machine

/-! SUPPORT. What a CTRL write can leave (40_register_ops.md R122 to R124). -/

namespace Sys2Proof.Machine

/-- CTRL.EN as the word that R124 keeps of the old CTRL. -/
theorem State.ctrl_and_one (s : State) : s.ctrl &&& 1#32 = if s.en then 1#32 else 0#32 := by
  rw [BitVec.and_one_eq_setWidth_ofBool_getLsbD, State.en]
  cases s.ctrl.getLsbD 0 <;> rfl

/-- The fields of a CTRL write, EN as it was; while open FRMEN and LOOP, bits 3 and 4, stay too, whether the write
repeats them or is refused. -/
theorem State.ctrlFields_cases (s : State) (w : Word) :
    ∃ v k, s.ctrlFields w = { s with ctrl := (v &&& 0x7E#32) ||| (if s.en then 1#32 else 0#32), sticky := k } ∧
      (s.en = true → v.getLsbD 3 = s.ctrl.getLsbD 3 ∧ v.getLsbD 4 = s.ctrl.getLsbD 4) := by
  rw [← s.ctrl_and_one]
  unfold State.ctrlFields State.signalIf
  dsimp only
  split
  next => exact ⟨_, _, rfl, fun _ => ⟨by simp, by simp⟩⟩
  next hkeep =>
    refine ⟨_, _, rfl, fun hen => ?_⟩
    have heq : w &&& 0x18#32 = s.ctrl &&& 0x18#32 := by simpa [hen] using hkeep
    have hbit (i : Nat) : (w &&& 0x18#32).getLsbD i = (s.ctrl &&& 0x18#32).getLsbD i := by rw [heq]
    exact ⟨by simpa using hbit 3, by simpa using hbit 4⟩

/-- `CtrlWritten s u`: a CTRL write can take `s` to `u`. -/
inductive CtrlWritten (s : State) : State → Prop
  | staysClosed (v : Word) (k : BitVec 14) (hen : s.en = false) :
      CtrlWritten s { s with ctrl := v &&& 0x7E#32, sticky := k }
  | opens (v : Word) (k : BitVec 14) (hen : s.en = false) (hlegal : s.legal = true) :
      CtrlWritten s { s with ctrl := v &&& 0x7E#32 ||| 1#32, sticky := k }
  | staysOpen (v : Word) (k : BitVec 14) (hen : s.en = true) (hfrmen : v.getLsbD 3 = s.ctrl.getLsbD 3)
      (hloop : v.getLsbD 4 = s.ctrl.getLsbD 4) :
      CtrlWritten s { s with ctrl := v &&& 0x7E#32 ||| 1#32, sticky := k }
  | closes (v : Word) (k : BitVec 14) (hen : s.en = true) (hfrmen : v.getLsbD 3 = s.ctrl.getLsbD 3)
      (hloop : v.getLsbD 4 = s.ctrl.getLsbD 4) :
      CtrlWritten s { s with ctrl := v &&& 0x7E#32 ||| 1#32, sticky := k }.close

theorem State.writeCtrl_written (s : State) (w : Word) : CtrlWritten s (s.writeCtrl w) := by
  obtain ⟨v, k, hfields, hlocked⟩ := s.ctrlFields_cases (w &&& 0x7F#32)
  unfold State.writeCtrl
  rw [hfields]
  cases hen : s.en with
  | false =>
    simp only [Bool.false_eq_true, if_false, BitVec.or_zero, Bool.not_false, Bool.true_and, Bool.false_and]
    split
    · rcases State.openBlock_cases { s with ctrl := v &&& 0x7E#32, sticky := k } with ⟨hl, e⟩ | ⟨_, e⟩
      · rw [e]; exact .opens v k hen hl
      · rw [e]
        have := CtrlWritten.staysClosed v (k ||| 1#14 <<< Event.cfgerr.code) hen
        rwa [show v &&& 0x7E#32 = (v &&& 0x7E#32) &&& ~~~1#32 by rw [BitVec.and_assoc]; rfl] at this
    · exact .staysClosed v k hen
  | true =>
    obtain ⟨hfrmen, hloop⟩ := hlocked hen
    simp only [if_true, Bool.not_true, Bool.false_and, Bool.true_and, Bool.false_eq_true, if_false]
    split
    · exact .closes v k hen hfrmen hloop
    · exact .staysOpen v k hen hfrmen hloop

end Sys2Proof.Machine

/-! SUPPORT. What no access changes: LINEOUT, the schedule, the reset input and the memory outside an aligned write to
TXBUF (R44, R57), and while open the configuration (R60). -/

namespace Sys2Proof.Machine

open Sys2Proof.Safety

@[simp] theorem leBytes_length (n : Nat) (d : Word) : (leBytes n d).length = n := by
  induction n generalizing d with
  | zero => rfl
  | succ n ih => rw [leBytes, List.length_cons, ih]

/-- When a buffer access passes its check (R73). -/
theorem bufferOk_iff (i : Byte) (size : Size) : bufferOk i size = true ↔ i.toNat % size.bytes = 0 := by
  simp [bufferOk]

theorem txbufOffset_toNat (j : Byte) : (bufferOffset 1#4 j).toNat = 0x100 + j.toNat := Laws.page_toNat 1#4 j

theorem CtrlWritten.mem_eq {s u : State} (h : CtrlWritten s u) : u.mem = s.mem := by
  cases h <;> rfl

/-- SRST first closes an open block (R152). -/
theorem State.softReset_of_open {s : State} (hen : s.en = true) : s.softReset = s.close.softReset := by
  simp only [State.softReset, hen, State.close_en, Bool.false_eq_true, if_true, if_false]

theorem State.softReset_of_closed {s : State} (hen : s.en = false) : s.softReset =
    { s with sticky := 0#14, frmCause := 0#4, rxinfo := 0#32, acc := 0#16
             cntOk := 0#16, cntChk := 0#16, cntFrm := 0#16, cntDisc := 0#16 } := by
  rw [State.softReset, hen, if_neg Bool.false_ne_true]

@[simp] theorem State.softReset_mem (s : State) : s.softReset.mem = s.mem := by
  cases hen : s.en with
  | false => rw [State.softReset_of_closed hen]
  | true => rw [State.softReset_of_open hen, State.softReset_of_closed s.close_en, State.close_mem]

/-- An access leaves the memory alone, or stores the bytes of an aligned WR.TXBUF (R132). -/
theorem Effect.mem_cases {i : Instr} {s u : State} (h : Effect i s u) :
    u.mem = s.mem ∨ ∃ j size d, i = .wrTxbuf j size d ∧ j.toNat % size.bytes = 0 ∧
      u.mem = s.mem.writeBytes (0x100 + j.toNat) (leBytes size.bytes d) := by
  cases h with
  | store j size d hi ha => exact .inr ⟨j, size, d, hi, (bufferOk_iff j size).1 ha, by rw [txbufOffset_toNat]⟩
  | ctrl w => exact .inl (s.writeCtrl_written w).mem_eq
  | softReset => exact .inl s.softReset_mem
  | _ => exact .inl rfl

/-- The configuration that R60 locks. -/
structure ConfigKept (s t : State) : Prop where
  line : t.line = s.line
  prof0 : t.prof0 = s.prof0
  prof1 : t.prof1 = s.prof1
  prof2 : t.prof2 = s.prof2
  crc0 : t.crc0 = s.crc0
  crc1 : t.crc1 = s.crc1
  frmen : t.frmen = s.frmen
  loop : t.loop = s.loop

theorem CtrlWritten.configKept {s u : State} (hen : s.en = true) (h : CtrlWritten s u) : ConfigKept s u := by
  cases h with
  | staysClosed _ _ h => exact nomatch hen.symm.trans h
  | opens _ _ h => exact nomatch hen.symm.trans h
  | staysOpen v k _ h3 h4 =>
    exact ⟨rfl, rfl, rfl, rfl, rfl, rfl, by simpa [State.frmen] using h3, by simpa [State.loop] using h4⟩
  | closes v k _ h3 h4 =>
    exact ⟨rfl, rfl, rfl, rfl, rfl, rfl, by simpa [State.frmen] using h3, by simpa [State.loop] using h4⟩

theorem ConfigKept.close (s : State) : ConfigKept s s.close :=
  ⟨rfl, rfl, rfl, rfl, rfl, rfl, by simp [State.frmen], by simp [State.loop]⟩

theorem ConfigKept.softReset {s : State} (hen : s.en = true) : ConfigKept s s.softReset := by
  obtain ⟨hline, hprof0, hprof1, hprof2, hcrc0, hcrc1, hfrmen, hloop⟩ := ConfigKept.close s
  rw [State.softReset_of_open hen, State.softReset_of_closed s.close_en]
  exact ⟨hline, hprof0, hprof1, hprof2, hcrc0, hcrc1, hfrmen, hloop⟩

theorem Effect.configKept {i : Instr} {s u : State} (hen : s.en = true) (h : Effect i s u) : ConfigKept s u := by
  have locked {P : Prop} (h : s.en = false) : P := nomatch hen.symm.trans h
  cases h with
  | softReset => exact .softReset hen
  | ctrl w => exact (s.writeCtrl_written w).configKept hen
  | line _ h => exact locked h
  | prof0 _ h => exact locked h
  | prof1 _ h => exact locked h
  | prof2 _ h => exact locked h
  | crc0 _ h => exact locked h
  | crc1 _ h => exact locked h
  | _ => exact ⟨rfl, rfl, rfl, rfl, rfl, rfl, rfl, rfl⟩

end Sys2Proof.Machine

namespace Sys2Proof.Proofs

open Sys2Proof.Machine Sys2Proof.Safety

/-- Settles O29: of all effects only the store of WR.TXBUF touches the memory. -/
theorem accessesKeepLineoutAndOtherMemory : Obligations.AccessesKeepLineoutAndOtherMemory := by
  unfold Obligations.AccessesKeepLineoutAndOtherMemory
  intro i s t h
  obtain ⟨hline, hreset, hsched⟩ := exec_keeps h
  obtain ⟨u, r, hu, rfl⟩ := exec_effect h
  refine ⟨hline, hsched, hreset, fun a hout => ?_⟩
  rcases hu.mem_cases with hm | ⟨j, size, d, hi, ha, hm⟩
  · exact congrArg (Memory.read · a) hm
  · have hrange := hout j size d hi ha
    dsimp only
    rw [hm, Memory.read_writeBytes_outside _ _ _ _ (by rwa [leBytes_length])]

/-- Settles O30: of all effects only a CTRL write and SRST touch CTRL, and the locked registers need a closed block. -/
theorem openBlockKeepsItsConfiguration : Obligations.OpenBlockKeepsItsConfiguration := by
  unfold Obligations.OpenBlockKeepsItsConfiguration
  intro i s t hen h
  obtain ⟨u, r, hu, rfl⟩ := exec_effect h
  obtain ⟨hline, hprof0, hprof1, hprof2, hcrc0, hcrc1, hfrmen, hloop⟩ := hu.configKept hen
  exact ⟨hline, hprof0, hprof1, hprof2, hcrc0, hcrc1, hfrmen, hloop⟩

end Sys2Proof.Proofs

/-! SUPPORT. The invariant: what it does not depend on, a block with nothing in flight, and the accesses. -/

namespace Sys2Proof.Machine

/-! ## The wire frame's length (R112) -/

theorem State.lenBytes_length_le (s : State) (l : Nat) : (s.lenBytes l).length ≤ 2 := by
  unfold State.lenBytes
  dsimp only
  split
  · exact Nat.zero_le _
  · split
    · exact Nat.le_succ 1
    · split <;> exact le_rfl

theorem State.header_length_le (s : State) (a : Byte) (n : Nat) : (s.header a n).length ≤ 3 := by
  have hlen : (s.lenField n).length ≤ 2 := s.lenBytes_length_le _
  rw [State.header, List.length_append]
  split
  · rw [List.length_singleton]; omega
  · rw [List.length_nil]; omega

theorem State.trailer_length_le (s : State) : s.trailer.length ≤ 2 := by
  unfold State.trailer
  split
  · exact le_rfl
  · exact Nat.zero_le _

theorem State.chkField_length_le (s : State) (a : Byte) (p : List Byte) : (s.chkField a p).length ≤ 2 := by
  unfold State.chkField State.chkBytes
  split
  · split <;> exact le_rfl
  · exact Nat.le_succ 1

theorem State.syncSeq_length (s : State) : s.syncSeq.length = s.nsync := by
  unfold State.syncSeq State.nsync
  split <;> rfl

theorem State.nsync_pos (s : State) : 1 ≤ s.nsync := by
  unfold State.nsync
  split <;> decide

theorem State.nsync_le (s : State) : s.nsync ≤ 2 := by
  unfold State.nsync
  split <;> decide

theorem State.stuff_length_le (s : State) (bs : List Byte) : (s.stuff bs).length ≤ 2 * bs.length := by
  induction bs with
  | nil => exact le_rfl
  | cons v rest ih =>
    rw [State.stuff, List.length_append, List.length_cons]
    split
    · rw [List.length_cons, List.length_singleton]; omega
    · rw [List.length_singleton]; omega

theorem State.wireFrame_length_bounds (s : State) (a : Byte) {p : List Byte} (hp : p.length ≤ Config.bufSize) :
    1 ≤ (s.wireFrame a p).length ∧ (s.wireFrame a p).length ≤ Config.maxWire := by
  have hsync := s.syncSeq_length
  have hpos := s.nsync_pos
  have hle := s.nsync_le
  have hheader := s.header_length_le a p.length
  have htrailer := s.trailer_length_le
  have hchk := s.chkField_length_le a p
  have hbody := s.stuff_length_le (s.header a p.length ++ p)
  have hend := s.stuff_length_le (s.chkField a p)
  rw [List.length_append] at hbody
  unfold Config.bufSize at hp
  unfold State.wireFrame State.logical Config.maxWire
  split
  · simp only [List.length_append]; omega
  · simp only [List.length_append]; omega

end Sys2Proof.Machine

namespace Sys2Proof.Safety

open Sys2Proof.Machine

/-! ## What the invariant does not depend on -/

/-- The state with the fields blanked that the invariant says nothing of. -/
def invView (s : State) : State :=
  { s with
    sticky := 0#14, acc := 0#16, cntOk := 0#16, cntChk := 0#16, cntFrm := 0#16, cntDisc := 0#16
    lineOut := [], resetIn := false, resp := .none, sched := [] }

theorem inv_invView (s : State) : Inv (invView s) ↔ Inv s :=
  ⟨fun h => ⟨h.mem, h.reserved, h.depths, h.closed, h.legal, h.tx, h.raw, h.entries, h.decoder⟩,
    fun h => ⟨h.mem, h.reserved, h.depths, h.closed, h.legal, h.tx, h.raw, h.entries, h.decoder⟩⟩

theorem Inv.congr {s t : State} (h : Inv s) (e : invView t = invView s) : Inv t := by
  rw [← inv_invView, e, inv_invView]
  exact h

/-! ## A block with nothing in flight -/

/-- Nothing is in flight, as a close leaves it (R123): what `ClosedQuiet` asks of a closed block. -/
def Quiet (s : State) : Prop :=
  s.rxfifo = [] ∧ s.gapPend = false ∧ s.replay = [] ∧ s.oobq = [] ∧ s.fstate = .hunt ∧ s.escp = false ∧
    s.cand = Candidate.cleared ∧ s.txq = [] ∧ s.txsh = none ∧ s.txfr = false

theorem quiet_close (s : State) : Quiet s.close := ⟨rfl, rfl, rfl, rfl, rfl, rfl, rfl, rfl, rfl, rfl⟩

/-- An entry is one that LINE may present, apart from its gap flag (R211, R214). -/
def Allowed (s : State) (e : Entry) : Prop := s.lineAllowed { e with gap := false } = true

theorem entriesOk_iff (s : State) :
    EntriesOk s ↔
      (∀ e ∈ s.rxfifo, Allowed s e) ∧ (∀ e ∈ s.replay, Allowed s e) ∧ ∀ e ∈ s.cand.ents, Allowed s e := by
  simp only [EntriesOk, Allowed, List.mem_append, or_imp, forall_and, and_assoc]

/-- The decoder at rest: hunting, with no candidate and no escape pending. -/
theorem decoderOk_of_hunt {s : State} (hfstate : s.fstate = .hunt) (hcand : s.cand = Candidate.cleared)
    (hescp : s.escp = false) (hreplay : s.replay.length ≤ Config.maxCandidate)
    (hstuffed : s.stuffed = true → s.replay = []) : DecoderOk s := by
  refine ⟨by simp [candShape, hfstate, hcand], fun hs => ⟨hstuffed hs, by simp [hcand, Candidate.cleared]⟩,
    fun _ => hescp, fun _ hc => ?_, by simpa [hcand, Candidate.cleared] using hreplay⟩
  rw [hfstate] at hc
  cases hc

/-- A quiet block meets the invariant whatever its registers, as long as their reserved bits are 0 and it is open only
with a legal configuration. -/
theorem Quiet.inv {s : State} (h : Quiet s) (hmem : MemOk s) (hreserved : ReservedZero s) (hlegal : OpenLegal s) :
    Inv s := by
  obtain ⟨hrxfifo, hgap, hreplay, hoobq, hfstate, hescp, hcand, htxq, htxsh, htxfr⟩ := h
  exact {
    mem := hmem
    reserved := hreserved
    depths := by simp [DepthsOk, hrxfifo, hoobq]
    closed := fun _ => ⟨hrxfifo, hgap, hreplay, hoobq, hfstate, hescp, hcand, htxq, htxsh, htxfr⟩
    legal := hlegal
    tx := by simp [TxOk, htxq, htxfr]
    raw := fun _ => ⟨hfstate, hescp, hreplay, hcand, hoobq⟩
    entries := by simp [EntriesOk, hrxfifo, hreplay, hcand, Candidate.cleared]
    decoder := decoderOk_of_hunt hfstate hcand hescp (by simp [hreplay]) fun _ => hreplay }

theorem openLegal_of_closed {s : State} (hen : s.en = false) : OpenLegal s := fun h => nomatch hen.symm.trans h

theorem inv_reset : Inv State.reset := by
  refine Quiet.inv ⟨rfl, rfl, rfl, rfl, rfl, rfl, rfl, rfl, rfl, rfl⟩ ⟨rfl, ?_⟩ ?_ (openLegal_of_closed rfl)
  · exact fun c hc => absurd hc List.not_mem_nil
  · exact ⟨rfl, rfl, rfl, rfl, rfl, rfl, rfl, rfl, by decide⟩

/-! ## Updates of the registers -/

/-- A datum cut to a register's fields has its reserved bits 0. -/
theorem and_mask_eq_zero (w : Word) {fields reserved : Word} (h : fields &&& reserved = 0#32) :
    w &&& fields &&& reserved = 0#32 := by
  rw [BitVec.and_assoc, h, BitVec.and_zero]

theorem ReservedZero.withCtrl {s : State} (h : ReservedZero s) {c : Word} (hc : c &&& 0xFFFFFF80#32 = 0#32)
    (k : BitVec 14) : ReservedZero { s with ctrl := c, sticky := k } := by
  obtain ⟨_, hrest⟩ := h
  exact ⟨hc, hrest⟩

/-- The fields of CTRL, EN set. -/
theorem ctrl_opened_reserved (v : Word) : ((v &&& 0x7E#32) ||| 1#32) &&& 0xFFFFFF80#32 = 0#32 := by
  rw [BitVec.and_or_distrib_right, and_mask_eq_zero v (by decide)]
  rfl

/-- A close leaves a block that meets the invariant, whatever was in flight. -/
theorem inv_close {s : State} (hmem : MemOk s) (hreserved : ReservedZero s) : Inv s.close := by
  obtain ⟨hctrl, hrest⟩ := hreserved
  refine (quiet_close s).inv hmem ⟨?_, hrest⟩ (openLegal_of_closed s.close_en)
  rw [State.close_ctrl, BitVec.and_assoc, BitVec.and_comm (~~~1#32), ← BitVec.and_assoc, hctrl, BitVec.zero_and]

theorem inv_of_ctrlWritten {s u : State} (h : Inv s) (hu : CtrlWritten s u) : Inv u := by
  cases hu with
  | staysClosed v k hen =>
    have hquiet : Quiet s := h.closed hen
    exact Quiet.inv hquiet h.mem (h.reserved.withCtrl (and_mask_eq_zero v (by decide)) k)
      (openLegal_of_closed (by simp [State.en]))
  | opens v k hen hlegal =>
    have hquiet : Quiet s := h.closed hen
    exact Quiet.inv hquiet h.mem (h.reserved.withCtrl (ctrl_opened_reserved v) k) fun _ => hlegal
  | staysOpen v k hen hfrmen _ =>
    refine { h with
      reserved := h.reserved.withCtrl (ctrl_opened_reserved v) k
      closed := fun hclosed => by simp [State.en] at hclosed
      legal := fun _ => h.legal hen
      raw := fun hraw => h.raw ?_ }
    rw [State.frmen, ← hfrmen]
    simpa [State.frmen] using hraw
  | closes v k hen _ _ => exact inv_close h.mem (h.reserved.withCtrl (ctrl_opened_reserved v) k)

theorem inv_softReset {s : State} (h : Inv s) : Inv s.softReset := by
  have hclosed {s : State} (h : Inv s) (hen : s.en = false) : Inv s.softReset := by
    obtain ⟨hctrl, hline, hprof0, hprof2, hcrc1, hien, _, hrxto, _⟩ := h.reserved
    have hcause : (0#4) ≤ 8#4 := by decide
    rw [State.softReset_of_closed hen]
    exact { h with reserved := ⟨hctrl, hline, hprof0, hprof2, hcrc1, hien, BitVec.zero_and, hrxto, hcause⟩ }
  cases hen : s.en with
  | false => exact hclosed h hen
  | true =>
    rw [State.softReset_of_open hen]
    exact hclosed (inv_close h.mem h.reserved) s.close_en

/-! ## Updates of the memory and the queues -/

theorem memOk_writeBytes {s : State} (h : MemOk s) {a : Nat} {p : List Byte} (ha : Config.txbufBase ≤ a)
    (hp : a + p.length ≤ Config.rxbufBase + Config.bufSize) : MemOk { s with mem := s.mem.writeBytes a p } := by
  obtain ⟨hwf, hrange⟩ := h
  refine ⟨Memory.wf_writeBytes _ _ _ hwf, fun c hc => ?_⟩
  rcases Memory.mem_writeBytes _ _ _ _ hc with hold | ⟨hlo, hhi⟩
  · exact hrange c hold
  · omega

theorem size_bytes_le (size : Size) : size.bytes ≤ 4 := by cases size <;> decide

/-- The bytes of a host's write to TXBUF lie in the buffers. -/
theorem inv_store {s : State} (h : Inv s) (j : Byte) (size : Size) (d : Word) :
    Inv { s with mem := s.mem.writeBytes (bufferOffset 1#4 j).toNat (leBytes size.bytes d) } := by
  have hj := j.isLt
  have hsize := size_bytes_le size
  refine { h with mem := memOk_writeBytes h.mem ?_ ?_ }
  · rw [txbufOffset_toNat]
    exact Nat.le_add_right _ _
  · rw [txbufOffset_toNat, leBytes_length, Config.rxbufBase, Config.bufSize]
    omega

/-- Other contents of the transmitter, empty where the block is closed. -/
theorem Inv.withTx {s : State} (h : Inv s) {q : List Byte} {sh : Option Byte} {fr : Bool}
    (hquiet : s.en = false → q = [] ∧ sh = none ∧ fr = false)
    (htx : TxOk { s with txq := q, txsh := sh, txfr := fr }) : Inv { s with txq := q, txsh := sh, txfr := fr } := by
  refine { h with tx := htx, closed := fun hen => ?_ }
  obtain ⟨hrxfifo, hgap, hreplay, hoobq, hfstate, hescp, hcand, _⟩ := h.closed hen
  exact ⟨hrxfifo, hgap, hreplay, hoobq, hfstate, hescp, hcand, hquiet hen⟩

theorem inv_frame {s : State} (h : Inv s) (hen : s.en = true) (a : Byte) {p : List Byte}
    (hp : p.length ≤ Config.bufSize) : Inv { s with txq := s.wireFrame a p, txfr := true } := by
  obtain ⟨hpos, hle⟩ := s.wireFrame_length_bounds a hp
  refine h.withTx (sh := s.txsh) (fun hclosed => nomatch hen.symm.trans hclosed) ⟨hle, nofun, fun _ => .inl ?_⟩
  exact List.ne_nil_of_length_pos hpos

theorem inv_abort {s : State} (h : Inv s) : Inv { s with txq := [], txfr := false } := by
  refine h.withTx (sh := s.txsh) (fun hen => ?_) ⟨Nat.zero_le _, fun _ => Nat.zero_le _, nofun⟩
  obtain ⟨_, _, _, _, _, _, _, _, htxsh, _⟩ := h.closed hen
  exact ⟨rfl, htxsh, rfl⟩

/-- What a transmit queue that is not full says (R33, R193). -/
theorem txFull_eq_false {s : State} (h : s.txFull = false) : s.txfr = false ∧ s.txq.length < Config.txfifoDepth := by
  simpa [State.txFull] using h

theorem inv_queued {s : State} (h : Inv s) (hen : s.en = true) (hroom : s.txFull = false) (v : Byte) :
    Inv { s with txq := s.txq ++ [v] } := by
  obtain ⟨hfr, hlen⟩ := txFull_eq_false hroom
  have hlen' : (s.txq ++ [v]).length ≤ Config.txfifoDepth := by
    rw [List.length_append, List.length_singleton]
    exact hlen
  refine h.withTx (sh := s.txsh) (fr := s.txfr) (fun hclosed => nomatch hen.symm.trans hclosed)
    ⟨?_, fun _ => hlen', ?_⟩
  · exact hlen'.trans (by decide)
  · exact fun _ => .inl (by simp)

/-- The oldest received character is taken. -/
theorem inv_popRxfifo {s : State} (h : Inv s) {e : Entry} {rest : List Entry} (hf : s.rxfifo = e :: rest) :
    Inv { s with rxfifo := rest } := by
  obtain ⟨hrxfifo, hoobq⟩ := h.depths
  obtain ⟨hallowed, hentries⟩ := (entriesOk_iff s).1 h.entries
  rw [hf, List.length_cons] at hrxfifo
  rw [hf] at hallowed
  refine { h with depths := ⟨by dsimp only; omega, hoobq⟩, closed := fun hen => ?_, entries := (entriesOk_iff _).2 ?_ }
  · obtain ⟨hnil, _⟩ := h.closed hen
    rw [hf] at hnil
    cases hnil
  · exact ⟨fun e he => hallowed e (List.mem_cons_of_mem _ he), hentries⟩

/-- The oldest out-of-band record is taken. -/
theorem inv_popOobq {s : State} (h : Inv s) {r : OobRec} {rest : List OobRec} (ho : s.oobq = r :: rest) :
    Inv { s with oobq := rest } := by
  obtain ⟨hrxfifo, hoobq⟩ := h.depths
  rw [ho, List.length_cons] at hoobq
  refine { h with depths := ⟨hrxfifo, by dsimp only; omega⟩, closed := fun hen => ?_, raw := fun hraw => ?_ }
  · obtain ⟨_, _, _, hnil, _⟩ := h.closed hen
    rw [ho] at hnil
    cases hnil
  · obtain ⟨_, _, _, _, hnil⟩ := h.raw hraw
    rw [ho] at hnil
    cases hnil

/-! ## Updates of the decoder by commands -/

/-- The decoder goes to HUNT with REPLAY as it was, as RXRELEASE and RESYNC have it go. -/
theorem Inv.withHunt {s : State} (h : Inv s) :
    Inv { s with fstate := .hunt, escp := false, cand := Candidate.cleared } := by
  obtain ⟨_, hstuffed, _, _, hlen⟩ := h.decoder
  obtain ⟨hrxfifo, hreplay, _⟩ := (entriesOk_iff s).1 h.entries
  refine { h with
    closed := fun hen => ?_
    raw := fun hraw => ?_
    entries := (entriesOk_iff _).2 ⟨hrxfifo, hreplay, fun e he => absurd he List.not_mem_nil⟩
    decoder := decoderOk_of_hunt rfl rfl rfl ?_ fun hs => (hstuffed hs).1 }
  · obtain ⟨hrxfifo, hgap, hreplay, hoobq, _, _, _, htx⟩ := h.closed hen
    exact ⟨hrxfifo, hgap, hreplay, hoobq, rfl, rfl, rfl, htx⟩
  · obtain ⟨_, _, hreplay, _, hoobq⟩ := h.raw hraw
    exact ⟨rfl, rfl, hreplay, rfl, hoobq⟩
  · dsimp only
    omega

/-- In HOLD the candidate is already cleared, so RXRELEASE only leaves it (R155). -/
theorem inv_release {s : State} (h : Inv s) (hf : s.fstate = .hold) : Inv { s with fstate := .hunt } := by
  obtain ⟨hshape, _⟩ := h.decoder
  obtain ⟨hcand, hescp⟩ : s.cand = Candidate.cleared ∧ s.escp = false := by simpa [candShape, hf] using hshape
  have hhunt := h.withHunt
  rwa [← hcand, ← hescp] at hhunt

theorem inv_flush {s : State} (h : Inv s) : Inv s.dropReceived := by
  exact { h with
    depths := ⟨Nat.zero_le _, Nat.zero_le _⟩
    closed := fun hen => by
      obtain ⟨_, _, _, _, _, _, _, htx⟩ := h.closed hen
      exact ⟨rfl, rfl, rfl, rfl, rfl, rfl, rfl, htx⟩
    raw := fun _ => ⟨rfl, rfl, rfl, rfl, rfl⟩
    entries := fun e he => absurd he List.not_mem_nil
    decoder := decoderOk_of_hunt rfl rfl rfl (Nat.zero_le _) fun _ => rfl }

/-- A closed block can be given any configuration whose reserved bits are 0. -/
theorem Inv.configure {s : State} (h : Inv s) (hen : s.en = false) {line prof0 prof1 prof2 crc0 crc1 : Word}
    (hreserved : ReservedZero
      { s with line := line, prof0 := prof0, prof1 := prof1, prof2 := prof2, crc0 := crc0, crc1 := crc1 }) :
    Inv { s with line := line, prof0 := prof0, prof1 := prof1, prof2 := prof2, crc0 := crc0, crc1 := crc1 } :=
  have hquiet : Quiet s := h.closed hen
  Quiet.inv hquiet h.mem hreserved (openLegal_of_closed hen)

/-- Every effect of an access keeps the invariant. -/
theorem inv_of_effect {i : Instr} {s u : State} (h : Inv s) (hu : Effect i s u) : Inv u := by
  obtain ⟨hctrl, hline, hprof0, hprof2, hcrc1, hien, hrxinfo, hrxto, hcause⟩ := h.reserved
  cases hu with
  | same => exact h
  | event x => exact h.congr rfl
  | clearEvents ones => exact h.congr rfl
  | softReset => exact inv_softReset h
  | frame a p hen hlen => exact inv_frame h hen a hlen
  | abort => exact inv_abort h
  | release hf => exact inv_release h hf
  | resync => exact h.withHunt
  | flush => exact inv_flush h
  | acc x => exact h.congr rfl
  | ctrl w => exact inv_of_ctrlWritten h (s.writeCtrl_written w)
  | line w hen =>
    exact h.configure hen ⟨hctrl, and_mask_eq_zero w (by decide), hprof0, hprof2, hcrc1, hien, hrxinfo, hrxto, hcause⟩
  | prof0 w hen =>
    exact h.configure hen ⟨hctrl, hline, and_mask_eq_zero w (by decide), hprof2, hcrc1, hien, hrxinfo, hrxto, hcause⟩
  | prof1 w hen =>
    exact h.configure hen h.reserved
  | prof2 w hen =>
    exact h.configure hen ⟨hctrl, hline, hprof0, and_mask_eq_zero w (by decide), hcrc1, hien, hrxinfo, hrxto, hcause⟩
  | crc0 w hen =>
    exact h.configure hen h.reserved
  | crc1 w hen =>
    exact h.configure hen ⟨hctrl, hline, hprof0, hprof2, and_mask_eq_zero w (by decide), hien, hrxinfo, hrxto, hcause⟩
  | ien w =>
    exact { h with
      reserved := ⟨hctrl, hline, hprof0, hprof2, hcrc1, and_mask_eq_zero w (by decide), hrxinfo, hrxto, hcause⟩ }
  | rxto w =>
    exact { h with
      reserved := ⟨hctrl, hline, hprof0, hprof2, hcrc1, hien, hrxinfo, and_mask_eq_zero w (by decide), hcause⟩ }
  | queued v hen hroom => exact inv_queued h hen hroom v
  | popChar e rest hf => exact inv_popRxfifo h hf
  | popOob r rest ho => exact inv_popOobq h ho
  | counters ok chk frm disc => exact h.congr rfl
  | store j size d _ _ => exact inv_store h j size d

theorem inv_of_exec {i : Instr} {s t : State} (h : Inv s) (ht : exec i s = .next t) : Inv t := by
  obtain ⟨u, r, hu, rfl⟩ := exec_effect ht
  exact (inv_of_effect h hu).congr rfl

end Sys2Proof.Safety

/-! SUPPORT. The invariant and the frame decoder. In an open block in framed mode the invariant is `Decoding`: `Framed`,
which does not speak of what the candidate's bytes mean, and `Record`, which says what the candidate record holds in each
decoder state (10_state.md R48 to R51; 44_receive.md R225 to R233). -/

namespace Sys2Proof.Safety

open Sys2Proof.Machine

/-! ## The candidate record -/

/-- In an unstuffed profile CAND holds an entry for each logical byte that the record has taken, and `k` more. -/
def Counted (k : Nat) (s : State) : Prop :=
  s.stuffed = false →
    s.cand.ents.length =
      s.nsync + s.hasAddr.toNat + s.cand.len.length + s.cand.pay.length + s.cand.chk.length + k

/-- What the candidate record holds in each decoder state, `k` entries of CAND not yet taken: `candShape` and the count of
`DecoderOk` case by case. Of the two cases of the payload, `payOpen` has no declared length. -/
inductive Record (k : Nat) (s : State) : Prop
  | hunt (hf : s.fstate = .hunt) (hc : s.cand = Candidate.cleared)
  | sync (hf : s.fstate = .sync) (hs : s.stuffed = false) (hn : s.nsync2 = true) (hl : s.cand.ents.length = 1)
      (hc : { s.cand with ents := [] } = Candidate.cleared)
  | addr (hf : s.fstate = .addr) (ha : s.hasAddr = true) (hc : { s.cand with ents := [] } = Candidate.cleared)
      (hn : s.stuffed = false → s.cand.ents.length = s.nsync + k)
  | len (hf : s.fstate = .len) (hl : s.cand.len.length < s.lenw) (hp : s.cand.pay = []) (hk : s.cand.chk = [])
      (hx : s.cand.nexp = none) (hn : Counted k s)
  | payOpen (hf : s.fstate = .pay) (hl : s.cand.len.length = s.lenw) (hw : s.lenw = 0) (hk : s.cand.chk = [])
      (hx : s.cand.nexp = none) (hp : s.cand.pay.length ≤ Config.bufSize) (hn : Counted k s)
  | payTo (n : Nat) (hf : s.fstate = .pay) (hl : s.cand.len.length = s.lenw) (hw : 0 < s.lenw) (hk : s.cand.chk = [])
      (hx : s.cand.nexp = some n) (hmax : n ≤ Config.bufSize) (hp : s.cand.pay.length < n) (hn : Counted k s)
  | trl (hf : s.fstate = .trl) (he : s.endmk = true) (hl : s.cand.len.length = s.lenw) (hw : 0 < s.lenw)
      (hpos : 0 < s.cand.pay.length) (hp : s.cand.pay.length ≤ Config.bufSize) (hk : s.cand.chk = []) (hn : Counted k s)
  | chk (hf : s.fstate = .chk) (hl : s.cand.len.length = s.lenw) (hpos : 0 < s.cand.pay.length)
      (hp : s.cand.pay.length ≤ Config.bufSize) (hk : s.cand.chk.length < s.chkw) (hn : Counted k s)
  | hold (hf : s.fstate = .hold) (hc : s.cand = Candidate.cleared) (he : s.escp = false)

/-- The fields of a candidate that is cleared but for its entries. -/
theorem cleared_iff (c : Candidate) :
    { c with ents := [] } = Candidate.cleared ↔
      c.addr = 0#8 ∧ c.len = [] ∧ c.pay = [] ∧ c.chk = [] ∧ c.nexp = none := by
  cases c
  simp [Candidate.cleared]

/-- Outside ADDR the address byte, where the profile has one, is among the bytes taken. -/
theorem candBytes_of_ne_addr {s : State} (h : s.fstate ≠ .addr) :
    candBytes s = s.nsync + s.hasAddr.toNat + s.cand.len.length + s.cand.pay.length + s.cand.chk.length := by
  rw [candBytes, if_neg (by simpa using h)]

theorem counted_iff {k : Nat} {s : State} {f : FState} (hf : s.fstate = f) (hne : f ≠ .addr := by decide)
    (hc : f.isCand = true := by decide) :
    Counted k s ↔ (s.stuffed = false → s.fstate.isCand = true → s.cand.ents.length = candBytes s + k) := by
  rw [candBytes_of_ne_addr (by rwa [hf]), hf]
  exact ⟨fun h hs _ => h hs, fun h hs => h hs hc⟩

theorem shape_of_record {k : Nat} {s : State} (h : Record k s) : candShape s = true := by
  cases h with
  | hunt hf hc => simp [candShape, hf, hc]
  | sync hf hs hn hl hc => simp [candShape, hf, hs, hn, hl, hc]
  | addr hf ha hc hn => simp [candShape, hf, ha, hc]
  | len hf hl hp hk hx hn => simp [candShape, hf, hl, hp, hk, hx]
  | payOpen hf hl hw hk hx hp hn => simp [candShape, hf, hl, hw, hk, hx, hp]
  | payTo n hf hl hw hk hx hmax hp hn => simp [candShape, hf, hl, hw, hk, hx, hmax, hp]
  | trl hf he hl hw hpos hp hk hn => simp [candShape, hf, he, hl, hw, hpos, hp, hk]
  | chk hf hl hpos hp hk hn => simp [candShape, hf, hl, hpos, hp, hk]
  | hold hf hc he => simp [candShape, hf, hc, he]

theorem count_of_record {k : Nat} {s : State} (h : Record k s) :
    s.stuffed = false → s.fstate.isCand = true → s.cand.ents.length = candBytes s + k := by
  have outside {f : FState} (hf : s.fstate = f) (hnot : f.isCand = false) {P : Prop} (hc : s.fstate.isCand = true) :
      P := nomatch hnot.symm.trans ((congrArg FState.isCand hf).symm.trans hc)
  cases h with
  | hunt hf hc => exact fun _ => outside hf rfl
  | sync hf hs hn hl hc => exact fun _ => outside hf rfl
  | hold hf hc he => exact fun _ => outside hf rfl
  | addr hf ha hc hn =>
    obtain ⟨_, hl, hp, hk, _⟩ := (cleared_iff s.cand).1 hc
    intro hs _
    simpa [candBytes, hf, hl, hp, hk] using hn hs
  | len hf hl hp hk hx hn => exact (counted_iff hf).1 hn
  | payOpen hf hl hw hk hx hp hn => exact (counted_iff hf).1 hn
  | payTo n hf hl hw hk hx hmax hp hn => exact (counted_iff hf).1 hn
  | trl hf he hl hw hpos hp hk hn => exact (counted_iff hf).1 hn
  | chk hf hl hpos hp hk hn => exact (counted_iff hf).1 hn

theorem record_of_shape {k : Nat} {s : State} (hshape : candShape s = true)
    (hcount : s.stuffed = false → s.fstate.isCand = true → s.cand.ents.length = candBytes s + k) : Record k s := by
  cases hf : s.fstate with
  | hunt => exact .hunt hf (by simpa [candShape, hf] using hshape)
  | sync =>
    simp only [candShape, hf, Bool.and_eq_true, Bool.not_eq_true', beq_iff_eq, and_assoc] at hshape
    obtain ⟨hs, hn, hl, hc⟩ := hshape
    exact .sync hf hs hn hl hc
  | addr =>
    simp only [candShape, hf, Bool.and_eq_true, beq_iff_eq] at hshape
    obtain ⟨ha, hc⟩ := hshape
    obtain ⟨_, hl, hp, hk, _⟩ := (cleared_iff s.cand).1 hc
    refine .addr hf ha hc fun hs => ?_
    simpa [candBytes, hf, hl, hp, hk] using hcount hs (by rw [hf]; rfl)
  | len =>
    simp only [candShape, hf, Bool.and_eq_true, decide_eq_true_eq, List.isEmpty_iff, Option.isNone_iff_eq_none,
      and_assoc] at hshape
    obtain ⟨hl, hp, hk, hx⟩ := hshape
    exact .len hf hl hp hk hx ((counted_iff hf).2 hcount)
  | pay =>
    cases hx : s.cand.nexp with
    | none =>
      simp only [candShape, hf, hx, Bool.and_eq_true, decide_eq_true_eq, List.isEmpty_iff, beq_iff_eq,
        and_assoc] at hshape
      obtain ⟨hl, hk, hw, hp⟩ := hshape
      exact .payOpen hf hl hw hk hx hp ((counted_iff hf).2 hcount)
    | some n =>
      simp only [candShape, hf, hx, Bool.and_eq_true, decide_eq_true_eq, List.isEmpty_iff, beq_iff_eq,
        and_assoc] at hshape
      obtain ⟨hl, hk, hw, hmax, hp⟩ := hshape
      exact .payTo n hf hl hw hk hx hmax hp ((counted_iff hf).2 hcount)
  | trl =>
    simp only [candShape, hf, Bool.and_eq_true, decide_eq_true_eq, List.isEmpty_iff, beq_iff_eq, and_assoc] at hshape
    obtain ⟨he, hw, hl, hpos, hp, hk⟩ := hshape
    exact .trl hf he hl hw hpos hp hk ((counted_iff hf).2 hcount)
  | chk =>
    simp only [candShape, hf, Bool.and_eq_true, decide_eq_true_eq, beq_iff_eq, and_assoc] at hshape
    obtain ⟨hl, hpos, hp, hk⟩ := hshape
    exact .chk hf hl hpos hp hk ((counted_iff hf).2 hcount)
  | hold =>
    simp only [candShape, hf, Bool.and_eq_true, Bool.not_eq_true', beq_iff_eq] at hshape
    obtain ⟨hc, he⟩ := hshape
    exact .hold hf hc he

/-- `Record` is the shape and the count of the invariant. -/
theorem record_iff (k : Nat) (s : State) :
    Record k s ↔ candShape s = true ∧
      (s.stuffed = false → s.fstate.isCand = true → s.cand.ents.length = candBytes s + k) :=
  ⟨fun h => ⟨shape_of_record h, count_of_record h⟩, fun ⟨hshape, hcount⟩ => record_of_shape hshape hcount⟩

/-- The fields that the record rests on; all others as after reset. -/
def recordView (s : State) : State :=
  { State.reset with prof0 := s.prof0, fstate := s.fstate, cand := s.cand, escp := s.escp }

theorem record_recordView (k : Nat) (s : State) : Record k (recordView s) ↔ Record k s := by
  rw [record_iff, record_iff]
  rfl

theorem Record.congr {k : Nat} {s t : State} (h : Record k s) (e : recordView t = recordView s) : Record k t := by
  rw [← record_recordView, e, record_recordView]
  exact h

/-- In a stuffed profile CAND holds no entry to be counted. -/
theorem Record.of_stuffed {j k : Nat} {s : State} (h : Record j s) (hs : s.stuffed = true) : Record k s := by
  rw [record_iff] at h ⊢
  exact ⟨h.1, fun hns => nomatch hs.symm.trans hns⟩

/-- Outside a candidate there is nothing to be counted. -/
theorem Record.of_not_isCand {j k : Nat} {s : State} (h : Record j s) (hc : s.fstate.isCand = false) : Record k s := by
  rw [record_iff] at h ⊢
  exact ⟨h.1, fun _ hcand => nomatch hc.symm.trans hcand⟩

/-- The record speaks of ESCP in HOLD alone. -/
theorem Record.withEscp {k : Nat} {s : State} (h : Record k s) {b : Bool} (hb : s.fstate = .hold → b = false) :
    Record k { s with escp := b } := by
  cases h with
  | hunt hf hc => exact .hunt hf hc
  | sync hf hs hn hl hc => exact .sync hf hs hn hl hc
  | addr hf ha hc hn => exact .addr hf ha hc hn
  | len hf hl hp hk hx hn => exact .len hf hl hp hk hx hn
  | payOpen hf hl hw hk hx hp hn => exact .payOpen hf hl hw hk hx hp hn
  | payTo n hf hl hw hk hx hmax hp hn => exact .payTo n hf hl hw hk hx hmax hp hn
  | trl hf he hl hw hpos hp hk hn => exact .trl hf he hl hw hpos hp hk hn
  | chk hf hl hpos hp hk hn => exact .chk hf hl hpos hp hk hn
  | hold hf hc he => exact .hold hf hc (hb hf)

/-! ## The block around the record -/

/-- An open block in framed mode with everything in order but the candidate record and FSTATE. -/
structure Framed (s : State) : Prop where
  en : s.en = true
  frmen : s.frmen = true
  legal : s.legal = true
  mem : MemOk s
  reserved : ReservedZero s
  depths : DepthsOk s
  tx : TxOk s
  entries : EntriesOk s
  stuffed_nil : s.stuffed = true → s.replay = [] ∧ s.cand.ents = []
  unstuffed_escp : s.stuffed = false → s.escp = false
  held_le : s.replay.length + s.cand.ents.length ≤ Config.maxCandidate

/-- The invariant of an open block in framed mode. -/
structure Decoding (s : State) : Prop where
  framed : Framed s
  record : Record 0 s

theorem Decoding.inv {s : State} (h : Decoding s) : Inv s := by
  obtain ⟨f, r⟩ := h
  obtain ⟨hshape, hcount⟩ := (record_iff 0 s).1 r
  exact {
    mem := f.mem
    reserved := f.reserved
    depths := f.depths
    closed := fun hen => nomatch f.en.symm.trans hen
    legal := fun _ => f.legal
    tx := f.tx
    raw := fun hraw => nomatch f.frmen.symm.trans hraw
    entries := f.entries
    decoder := ⟨hshape, f.stuffed_nil, f.unstuffed_escp, hcount, f.held_le⟩ }

theorem Inv.decoding {s : State} (h : Inv s) (hen : s.en = true) (hfrmen : s.frmen = true) : Decoding s := by
  obtain ⟨hshape, hnil, hescp, hcount, hheld⟩ := h.decoder
  exact ⟨⟨hen, hfrmen, h.legal hen, h.mem, h.reserved, h.depths, h.tx, h.entries, hnil, hescp, hheld⟩,
    (record_iff 0 s).2 ⟨hshape, hcount⟩⟩

/-- The state with the fields blanked that `Framed` says nothing of: the record but for its entries, the sticky bits and
the counters. -/
def framedView (s : State) : State :=
  { s with
    sticky := 0#14, cntOk := 0#16, cntChk := 0#16, cntFrm := 0#16, cntDisc := 0#16, fstate := .hunt
    cand := { Candidate.cleared with ents := s.cand.ents } }

theorem framed_framedView (s : State) : Framed (framedView s) ↔ Framed s :=
  ⟨fun h => ⟨h.en, h.frmen, h.legal, h.mem, h.reserved, h.depths, h.tx, h.entries,
      h.stuffed_nil, h.unstuffed_escp, h.held_le⟩,
    fun h => ⟨h.en, h.frmen, h.legal, h.mem, h.reserved, h.depths, h.tx, h.entries,
      h.stuffed_nil, h.unstuffed_escp, h.held_le⟩⟩

theorem Framed.congr {s t : State} (h : Framed s) (e : framedView t = framedView s) : Framed t := by
  rw [← framed_framedView, e, framed_framedView]
  exact h

/-- An unstuffed profile may have other entries in CAND and REPLAY. -/
theorem Framed.withEntries {s : State} (h : Framed s) (hs : s.stuffed = false) {c : Candidate} {l : List Entry}
    (hc : ∀ e ∈ c.ents, Allowed s e) (hl : ∀ e ∈ l, Allowed s e)
    (hlen : l.length + c.ents.length ≤ Config.maxCandidate) : Framed { s with cand := c, replay := l } := by
  obtain ⟨hrxfifo, _, _⟩ := (entriesOk_iff s).1 h.entries
  exact { h with
    entries := (entriesOk_iff _).2 ⟨hrxfifo, hl, hc⟩
    stuffed_nil := fun hstuffed => nomatch hs.symm.trans hstuffed
    held_le := hlen }

/-- A cleared candidate has no entries. -/
theorem Framed.withCleared {s : State} (h : Framed s) : Framed { s with cand := Candidate.cleared } := by
  obtain ⟨hrxfifo, hreplay, _⟩ := (entriesOk_iff s).1 h.entries
  exact { h with
    entries := (entriesOk_iff _).2 ⟨hrxfifo, hreplay, fun e he => absurd he List.not_mem_nil⟩
    stuffed_nil := fun hs => ⟨(h.stuffed_nil hs).1, rfl⟩
    held_le := le_trans (Nat.le_add_right _ _) h.held_le }

theorem Framed.withEscp {s : State} (h : Framed s) {b : Bool} (hb : s.stuffed = false → b = false) :
    Framed { s with escp := b } :=
  { h with unstuffed_escp := hb }

/-! ## Events, discarded bytes and failures -/

/-- A discarded byte changes CNTDISC, the sticky bits and OOBQ, and keeps the depth of OOBQ (R239, R240). -/
theorem discardByte_cases (s : State) (v : Byte) (x : Bool) :
    ∃ k q, s.discardByte v x = { s with cntDisc := s.cntDisc + BitVec.ofNat 16 (1 + x.toNat), sticky := k, oobq := q } ∧
      (s.oobq.length ≤ Config.oobDepth → q.length ≤ Config.oobDepth) := by
  rw [State.discardByte]
  rcases (s.discard (1 + x.toNat)).oob_cases v x with e | ⟨_, e⟩ | ⟨_, hne, e⟩
  · exact ⟨_, _, e, id⟩
  · exact ⟨_, _, e, id⟩
  · refine ⟨_, _, e, fun hle => ?_⟩
    have hne : s.oobq.length ≠ 8 := hne
    simp only [State.discard_oobq, List.length_append, List.length_singleton]
    unfold Config.oobDepth at *
    omega

theorem Framed.discardByte {s : State} (h : Framed s) (v : Byte) (x : Bool) : Framed (s.discardByte v x) := by
  obtain ⟨k, q, e, hq⟩ := discardByte_cases s v x
  obtain ⟨hrxfifo, hoobq⟩ := h.depths
  rw [e]
  exact { h with depths := ⟨hrxfifo, hq hoobq⟩ }

theorem Record.discardByte {k : Nat} {s : State} (h : Record k s) (v : Byte) (x : Bool) :
    Record k (s.discardByte v x) := by
  obtain ⟨_, _, e, _⟩ := discardByte_cases s v x
  rw [e]
  exact h.congr rfl

theorem Decoding.discardByte {s : State} (h : Decoding s) (v : Byte) (x : Bool) : Decoding (s.discardByte v x) :=
  ⟨h.framed.discardByte v x, h.record.discardByte v x⟩

/-- The automatic NAK goes to an idle transmitter only, and is one character or two (R204). -/
theorem Framed.checksumError {s : State} (h : Framed s) : Framed s.checksumError := by
  obtain ⟨k, q, e, hq⟩ := s.checksumError_cases
  rw [e]
  rcases hq with hq | ⟨_, hfr, hq⟩
  · rw [hq]
    exact h.congr rfl
  · have hlen : q.length ≤ 2 := by
      rcases hq with hq | hq
      · rw [hq]; exact Nat.le_succ 1
      · rw [hq]; exact le_rfl
    exact { h with
      tx := ⟨hlen.trans (by decide), fun _ => hlen.trans (by decide), fun hfr' => nomatch hfr.symm.trans hfr'⟩ }

theorem failCause_code_le (k : FailCause) : k.code ≤ 8#4 := by cases k <;> decide

theorem Framed.framingError {s : State} (h : Framed s) (k : FailCause) : Framed (s.framingError k) := by
  obtain ⟨hctrl, hline, hprof0, hprof2, hcrc1, hien, hrxinfo, hrxto, _⟩ := h.reserved
  exact { h with
    reserved := ⟨hctrl, hline, hprof0, hprof2, hcrc1, hien, hrxinfo, hrxto, failCause_code_le k⟩ }

/-- The report of a failure: the counter, the events and the automatic NAK (R235, R236). -/
def report (s : State) (k : FailCause) : State := if k == .checksum then s.checksumError else s.framingError k

theorem fail_eq (s : State) (k : FailCause) (pb : List Entry) :
    s.fail k pb = (if (report s k).stuffed then report s k
      else { report s k with replay := (report s k).cand.ents.tail ++ pb ++ (report s k).replay }).toHunt := rfl

theorem Framed.report {s : State} (h : Framed s) (k : FailCause) : Framed (report s k) := by
  unfold Safety.report
  split
  · exact h.checksumError
  · exact h.framingError k

/-- A report leaves the profile, CAND and REPLAY alone. -/
theorem report_decoder (s : State) (k : FailCause) :
    (report s k).stuffed = s.stuffed ∧ (report s k).cand = s.cand ∧ (report s k).replay = s.replay ∧
      ∀ e, Allowed (report s k) e = Allowed s e := by
  unfold report
  split
  · obtain ⟨_, _, e, _⟩ := s.checksumError_cases
    rw [e]
    exact ⟨rfl, rfl, rfl, fun _ => rfl⟩
  · exact ⟨rfl, rfl, rfl, fun _ => rfl⟩

theorem Framed.toHunt {s : State} (h : Framed s) : Decoding s.toHunt :=
  ⟨(h.withCleared.withEscp fun _ => rfl).congr rfl, .hunt rfl rfl⟩

/-- An unstuffed profile goes to HUNT with other entries in REPLAY (R237). -/
theorem Framed.requeue {s : State} (h : Framed s) (hs : s.stuffed = false) {l : List Entry}
    (hl : ∀ e ∈ l, Allowed s e) (hlen : l.length ≤ Config.maxCandidate) : Decoding { s with replay := l }.toHunt := by
  have hcleared : Framed { s with cand := Candidate.cleared, replay := l } :=
    h.withEntries hs (fun e he => absurd he List.not_mem_nil) hl hlen
  exact ⟨(hcleared.withEscp fun _ => rfl).congr rfl, .hunt rfl rfl⟩

/-- A failure is handled whole: the candidate's tail and the put-back entries still fit in REPLAY (R48, R237). -/
theorem Framed.fail {s : State} (h : Framed s) (k : FailCause) {pb : List Entry} (hpb : ∀ e ∈ pb, Allowed s e)
    (hlen : s.cand.ents.length - 1 + pb.length + s.replay.length ≤ Config.maxCandidate) : Decoding (s.fail k pb) := by
  obtain ⟨hstuffed, hcand, hreplay, hallowed⟩ := report_decoder s k
  obtain ⟨_, hreplayOk, hentsOk⟩ := (entriesOk_iff s).1 h.entries
  rw [fail_eq]
  split
  · exact (h.report k).toHunt
  next hs =>
    refine (h.report k).requeue (Bool.eq_false_iff.2 hs) (fun e he => ?_) ?_
    · rw [hcand, hreplay, List.mem_append, List.mem_append] at he
      rw [hallowed]
      rcases he with (he | he) | he
      · exact hentsOk e (List.mem_of_mem_tail he)
      · exact hpb e he
      · exact hreplayOk e he
    · rwa [hcand, hreplay, List.length_append, List.length_append, List.length_tail]

theorem Framed.fail_nil {s : State} (h : Framed s) (k : FailCause) : Decoding (s.fail k []) := by
  have hheld := h.held_le
  refine h.fail k (fun e he => absurd he List.not_mem_nil) ?_
  rw [List.length_nil]
  omega

/-! ## The bytes of a candidate (R225, R227, R230 to R234) -/

theorem lenw_le {s : State} (h : s.legal = true) : s.lenw ≤ 2 := by
  have hlt : s.lenw < 4 := (s.prof0.extractLsb' 2 2).isLt
  have hne : s.lenw ≠ 3 := by
    unfold State.legal at h
    simp only [Bool.and_eq_true, bne_iff_ne] at h
    obtain ⟨⟨⟨⟨⟨⟨_, hne⟩, _⟩, _⟩, _⟩, _⟩, _⟩ := h
    exact hne
  omega

theorem chkw_pos (s : State) : 0 < s.chkw := by
  unfold State.chkw
  split <;> decide

theorem chkw_le (s : State) : s.chkw ≤ 2 := by
  unfold State.chkw
  split <;> decide

/-- The record that `start` begins: only the sync sequence has been taken (R225). -/
theorem record_start {s : State} (hn : s.stuffed = false → s.cand.ents.length = s.nsync) : Record 0 s.start := by
  cases ha : s.hasAddr with
  | true => exact .addr (by simp [State.start, ha]) ha rfl hn
  | false =>
    have hcount : Counted 0 s.start := fun hs => by
      simpa [State.start_cand, Candidate.cleared, ha] using hn hs
    rcases Nat.eq_zero_or_pos s.lenw with hw | hw
    · exact .payOpen (by simp [State.start, ha, hw]) hw.symm hw rfl rfl (Nat.zero_le _) hcount
    · exact .len (by simp [State.start, ha, hw]) hw rfl rfl rfl hcount

theorem Framed.start {s : State} (h : Framed s) (hn : s.stuffed = false → s.cand.ents.length = s.nsync) :
    Decoding s.start :=
  ⟨h.congr rfl, record_start hn⟩

/-- The reserved bits of RXINFO are the byte above the address (R38). -/
theorem rxinfo_reserved (a : Byte) (n : Half) : (0#8 ++ a ++ n : Word) &&& 0xFF000000#32 = 0#32 := by
  change (0#8 ++ a ++ n : Word) &&& (0xFF#8 ++ 0#8 ++ 0#16) = 0#32
  rw [BitVec.and_append, BitVec.and_append, BitVec.zero_and, BitVec.and_zero, BitVec.and_zero]
  rfl

theorem Framed.accept {s : State} (h : Framed s) (hp : s.cand.pay.length ≤ Config.bufSize) : Decoding s.accept := by
  obtain ⟨hctrl, hline, hprof0, hprof2, hcrc1, hien, _, hrxto, hcause⟩ := h.reserved
  have hcleared : Framed { s with cand := Candidate.cleared, escp := false } := h.withCleared.withEscp fun _ => rfl
  have hmem : MemOk s.accept := memOk_writeBytes h.mem (by decide) (Nat.add_le_add_left hp _)
  refine ⟨?_, .hold rfl rfl rfl⟩
  exact { hcleared.congr (t := { s with cand := Candidate.cleared, escp := false, fstate := .hold }) rfl with
    mem := hmem
    reserved := ⟨hctrl, hline, hprof0, hprof2, hcrc1, hien, rxinfo_reserved _ _, hrxto, hcause⟩ }

theorem Framed.verify {s : State} (h : Framed s) (hp : s.cand.pay.length ≤ Config.bufSize) : Decoding s.verify := by
  rcases s.verify_cases with e | e
  · rw [e]; exact h.accept hp
  · rw [e]; exact h.fail_nil .checksum

/-- One more byte of the length field, the payload or the checksum makes the count whole. -/
theorem Counted.taken {s : State} (h : Counted 1 s) {c : Candidate} {f : FState} (hents : c.ents = s.cand.ents)
    (hlen : c.len.length + c.pay.length + c.chk.length =
      s.cand.len.length + s.cand.pay.length + s.cand.chk.length + 1) : Counted 0 { s with cand := c, fstate := f } := by
  intro hs
  have hold := h hs
  change c.ents.length = s.nsync + s.hasAddr.toNat + c.len.length + c.pay.length + c.chk.length + 0
  rw [hents]
  omega

theorem length_snoc (l : List Byte) (v : Byte) : (l ++ [v]).length = l.length + 1 := by
  rw [List.length_append, List.length_singleton]

/-- The address byte (R227). -/
theorem addrByte_decoding {s : State} (h : Framed s) (v : Byte) (hf : s.fstate = .addr) (ha : s.hasAddr = true)
    (hc : { s.cand with ents := [] } = Candidate.cleared) (hn : s.stuffed = false → s.cand.ents.length = s.nsync + 1) :
    Decoding (s.dataByte v) := by
  obtain ⟨_, hl, hp, hk, hx⟩ := (cleared_iff s.cand).1 hc
  have hcount (f : FState) : Counted 0 { s with cand := { s.cand with addr := v }, fstate := f } := fun hs => by
    change s.cand.ents.length =
      s.nsync + s.hasAddr.toNat + s.cand.len.length + s.cand.pay.length + s.cand.chk.length + 0
    rw [hn hs, ha, hl, hp, hk]
    rfl
  simp only [State.dataByte, hf]
  split
  next hw => exact ⟨h.congr rfl, .len rfl (by rwa [hl]) hp hk hx (hcount _)⟩
  next hw =>
    have hw : s.lenw = 0 := Nat.eq_zero_of_not_pos hw
    exact ⟨h.congr rfl, .payOpen rfl (by rw [hl]; exact hw.symm) hw hk hx (by rw [hp]; exact Nat.zero_le _) (hcount _)⟩

theorem lenByte_decoding {s : State} (h : Framed s) (v : Byte) (hf : s.fstate = .len) (hl : s.cand.len.length < s.lenw)
    (hp : s.cand.pay = []) (hk : s.cand.chk = []) (hx : s.cand.nexp = none) (hn : Counted 1 s) :
    Decoding (s.lenByte v) := by
  have hlen := length_snoc s.cand.len v
  unfold State.lenByte
  dsimp only
  split
  next hall =>
    split
    · exact Framed.fail_nil (s := { s with cand := { s.cand with len := s.cand.len ++ [v] } }) (h.congr rfl) .length
    next hrange =>
      refine ⟨h.congr rfl, .payTo _ rfl (beq_iff_eq.1 hall) (Nat.zero_lt_of_lt hl) hk rfl ?_ ?_ (hn.taken rfl ?_)⟩
      · omega
      · dsimp only
        rw [hp, List.length_nil]
        omega
      · dsimp only
        omega
  next hmore =>
    have hmore : (s.cand.len ++ [v]).length ≠ s.lenw := fun e => hmore (beq_iff_eq.2 e)
    have hl : (s.cand.len ++ [v]).length < s.lenw := by omega
    exact ⟨h.congr rfl, .len hf hl hp hk hx (hn.taken rfl (by dsimp only; omega))⟩

/-- A payload byte of a candidate without a declared length (R231). -/
theorem payByte_decoding_open {s : State} (h : Framed s) (v : Byte) (hf : s.fstate = .pay)
    (hl : s.cand.len.length = s.lenw) (hw : s.lenw = 0) (hk : s.cand.chk = []) (hx : s.cand.nexp = none)
    (hp : s.cand.pay.length ≤ Config.bufSize) (hn : Counted 1 s) : Decoding (s.payByte v) := by
  have hlen := length_snoc s.cand.pay v
  unfold State.payByte
  simp only [hx]
  split
  · exact h.fail_nil .overlong
  next hroom =>
    have hroom : s.cand.pay.length ≠ Config.bufSize := fun e => hroom (beq_iff_eq.2 e)
    have hp : (s.cand.pay ++ [v]).length ≤ Config.bufSize := by omega
    exact ⟨h.congr rfl, .payOpen hf hl hw hk rfl hp (hn.taken rfl (by dsimp only; omega))⟩

/-- A payload byte of a candidate whose length field declares `n` of them (R231). -/
theorem payByte_decoding_to {s : State} (h : Framed s) (v : Byte) {n : Nat} (hf : s.fstate = .pay)
    (hl : s.cand.len.length = s.lenw) (hw : 0 < s.lenw) (hk : s.cand.chk = []) (hx : s.cand.nexp = some n)
    (hmax : n ≤ Config.bufSize) (hp : s.cand.pay.length < n) (hn : Counted 1 s) : Decoding (s.payByte v) := by
  have hlen := length_snoc s.cand.pay v
  have hpos : 0 < (s.cand.pay ++ [v]).length := by omega
  have hbuf : (s.cand.pay ++ [v]).length ≤ Config.bufSize := by omega
  unfold State.payByte
  simp only [hx]
  split
  · cases he : s.endmk with
    | true => exact ⟨h.congr rfl, .trl rfl he hl hw hpos hbuf hk (hn.taken rfl (by dsimp only; omega))⟩
    | false =>
      have hchk : s.cand.chk.length < s.chkw := by rw [hk]; exact chkw_pos s
      exact ⟨h.congr rfl, .chk rfl hl hpos hbuf hchk (hn.taken rfl (by dsimp only; omega))⟩
  next hmore =>
    have hmore : (s.cand.pay ++ [v]).length ≠ n := fun e => hmore (beq_iff_eq.2 e)
    have hp : (s.cand.pay ++ [v]).length < n := by omega
    exact ⟨h.congr rfl, .payTo n hf hl hw hk rfl hmax hp (hn.taken rfl (by dsimp only; omega))⟩

theorem chkByte_decoding {s : State} (h : Framed s) (v : Byte) (hf : s.fstate = .chk) (hl : s.cand.len.length = s.lenw)
    (hpos : 0 < s.cand.pay.length) (hp : s.cand.pay.length ≤ Config.bufSize) (hk : s.cand.chk.length < s.chkw)
    (hn : Counted 1 s) : Decoding (s.chkByte v) := by
  have hlen := length_snoc s.cand.chk v
  unfold State.chkByte
  dsimp only
  split
  · exact Framed.verify (s := { s with cand := { s.cand with chk := s.cand.chk ++ [v] } }) (h.congr rfl) hp
  next hmore =>
    have hmore : (s.cand.chk ++ [v]).length ≠ s.chkw := fun e => hmore (beq_iff_eq.2 e)
    have hk : (s.cand.chk ++ [v]).length < s.chkw := by omega
    exact ⟨h.congr rfl, .chk hf hl hpos hp hk (hn.taken rfl (by dsimp only; omega))⟩

/-- A logical byte whose entry is already in CAND makes the record whole again (R227). -/
theorem dataByte_decoding {s : State} (h : Framed s) (r : Record 1 s) (v : Byte) : Decoding (s.dataByte v) := by
  have idle (hc : s.fstate.isCand = false) : Decoding s := ⟨h, r.of_not_isCand hc⟩
  cases r with
  | addr hf ha hc hn => exact addrByte_decoding h v hf ha hc hn
  | hunt hf hc =>
    simp only [State.dataByte, hf]
    exact idle (by rw [hf]; rfl)
  | sync hf _ _ _ _ =>
    simp only [State.dataByte, hf]
    exact idle (by rw [hf]; rfl)
  | hold hf _ _ =>
    simp only [State.dataByte, hf]
    exact idle (by rw [hf]; rfl)
  | len hf hl hp hk hx hn =>
    simp only [State.dataByte, hf]
    exact lenByte_decoding h v hf hl hp hk hx hn
  | payOpen hf hl hw hk hx hp hn =>
    simp only [State.dataByte, hf]
    exact payByte_decoding_open h v hf hl hw hk hx hp hn
  | payTo n hf hl hw hk hx hmax hp hn =>
    simp only [State.dataByte, hf]
    exact payByte_decoding_to h v hf hl hw hk hx hmax hp hn
  | trl hf _ _ _ _ _ _ _ =>
    simp only [State.dataByte, hf]
    exact h.fail_nil .endMark
  | chk hf hl hpos hp hk hn =>
    simp only [State.dataByte, hf]
    exact chkByte_decoding h v hf hl hpos hp hk hn

/-! ## Unstuffed profiles (R223, R224, R226) -/

/-- An unstuffed candidate leaves room in CAND for one more entry: it holds at most 2 sync bytes, an address, 2 length
bytes, 256 payload bytes and all checksum bytes but one (R48). -/
theorem Record.ents_lt {s : State} (r : Record 0 s) (hlegal : s.legal = true) (hs : s.stuffed = false) :
    s.cand.ents.length < Config.maxCandidate := by
  have hnsync := s.nsync_le
  have haddr := s.hasAddr.toNat_le
  have hlenw := lenw_le hlegal
  have hchkw := chkw_le s
  unfold Config.maxCandidate
  cases r with
  | hunt hf hc => rw [hc]; decide
  | hold hf hc _ => rw [hc]; decide
  | sync hf _ _ hl hc => omega
  | addr hf ha hc hn =>
    have := hn hs
    omega
  | len hf hl hp hk hx hn =>
    have := hn hs
    rw [hp, hk, List.length_nil] at this
    omega
  | payOpen hf hl hw hk hx hp hn =>
    have := hn hs
    rw [hk, List.length_nil] at this
    unfold Config.bufSize at hp
    omega
  | payTo n hf hl hw hk hx hmax hp hn =>
    have := hn hs
    rw [hk, List.length_nil] at this
    unfold Config.bufSize at hmax
    omega
  | trl hf he hl hw hpos hp hk hn =>
    have := hn hs
    rw [hk, List.length_nil] at this
    unfold Config.bufSize at hp
    omega
  | chk hf hl hpos hp hk hn =>
    have := hn hs
    unfold Config.bufSize at hp
    omega

theorem Record.cand_of_hunt {k : Nat} {s : State} (r : Record k s) (hf : s.fstate = .hunt) :
    s.cand = Candidate.cleared := by
  simpa [candShape, hf] using shape_of_record r

theorem Record.of_sync {k : Nat} {s : State} (r : Record k s) (hf : s.fstate = .sync) :
    s.stuffed = false ∧ s.nsync2 = true ∧ s.cand.ents.length = 1 := by
  have hshape := shape_of_record r
  simp only [candShape, hf, Bool.and_eq_true, Bool.not_eq_true', beq_iff_eq, and_assoc] at hshape
  obtain ⟨hs, hn, hl, _⟩ := hshape
  exact ⟨hs, hn, hl⟩

/-- The entry of the next byte goes to CAND before the byte is taken (R226). -/
theorem Record.append {s : State} (r : Record 0 s) (hcand : s.fstate.isCand = true) (e : Entry) :
    Record 1 { s with cand := { s.cand with ents := s.cand.ents ++ [e] } } := by
  have hlen : (s.cand.ents ++ [e]).length = s.cand.ents.length + 1 := by rw [List.length_append, List.length_singleton]
  have hcount (hn : Counted 0 s) : Counted 1 { s with cand := { s.cand with ents := s.cand.ents ++ [e] } } := fun hs =>
    hlen.trans (congrArg (· + 1) (hn hs))
  have absurd_of {f : FState} (hf : s.fstate = f) (hnot : f.isCand = false) {P : Prop} : P :=
    nomatch hnot.symm.trans ((congrArg FState.isCand hf).symm.trans hcand)
  cases r with
  | hunt hf => exact absurd_of hf rfl
  | sync hf => exact absurd_of hf rfl
  | hold hf => exact absurd_of hf rfl
  | addr hf ha hc hn => exact .addr hf ha hc fun hs => hlen.trans (congrArg (· + 1) (hn hs))
  | len hf hl hp hk hx hn => exact .len hf hl hp hk hx (hcount hn)
  | payOpen hf hl hw hk hx hp hn => exact .payOpen hf hl hw hk hx hp (hcount hn)
  | payTo n hf hl hw hk hx hmax hp hn => exact .payTo n hf hl hw hk hx hmax hp (hcount hn)
  | trl hf he hl hw hpos hp hk hn => exact .trl hf he hl hw hpos hp hk (hcount hn)
  | chk hf hl hpos hp hk hn => exact .chk hf hl hpos hp hk (hcount hn)

section

/-! An entry `e` has been taken from the input of an unstuffed profile, and REPLAY and CAND have room for it. -/

variable {s : State} {e : Entry}

theorem plainHunt_decoding (h : Decoding s) (hs : s.stuffed = false) (hf : s.fstate = .hunt) (he : Allowed s e)
    (hroom : s.replay.length + s.cand.ents.length < Config.maxCandidate) : Decoding (s.plainHunt e) := by
  obtain ⟨framed, r⟩ := h
  have hcand := r.cand_of_hunt hf
  obtain ⟨_, hreplayOk, _⟩ := (entriesOk_iff s).1 framed.entries
  have hfirst : Framed { s with cand := { s.cand with ents := [{ e with gap := false }] } } := by
    refine framed.withEntries hs (fun x hx => ?_) hreplayOk ?_
    · rw [List.mem_singleton.1 hx]
      exact he
    · dsimp only
      rw [List.length_singleton]
      omega
  unfold State.plainHunt
  dsimp only
  split
  · exact ⟨framed.congr rfl, r.congr rfl⟩
  · split
    · split
      next hn => exact ⟨hfirst.congr rfl, .sync rfl hs hn rfl (by dsimp only; rw [hcand]; rfl)⟩
      next hn => exact hfirst.start fun _ => (if_neg hn).symm
    · exact Decoding.discardByte ⟨framed, r⟩ e.b false

theorem plainSync_decoding (h : Decoding s) (hf : s.fstate = .sync) (he : Allowed s e)
    (hroom : s.replay.length + s.cand.ents.length < Config.maxCandidate) : Decoding (s.plainSync e) := by
  obtain ⟨framed, r⟩ := h
  obtain ⟨hs, hn, hl⟩ := r.of_sync hf
  obtain ⟨_, hreplayOk, hentsOk⟩ := (entriesOk_iff s).1 framed.entries
  have hnsync : s.nsync = 2 := if_pos hn
  unfold State.plainSync
  dsimp only
  split
  · obtain ⟨_, _, ed, _⟩ := discardByte_cases s s.sync0 false
    have hdiscard := framed.discardByte s.sync0 false
    rw [ed] at hdiscard ⊢
    refine ⟨?_, .hunt rfl rfl⟩
    have hput := hdiscard.withEntries hs (c := Candidate.cleared) (l := e :: s.replay) nofun
      (List.forall_mem_cons.2 ⟨he, hreplayOk⟩) (by rw [List.length_cons, Candidate.cleared, List.length_nil]; omega)
    exact hput.congr rfl
  · refine Framed.start (framed.withEntries hs (List.forall_mem_append.2 ⟨hentsOk, ?_⟩) hreplayOk ?_) fun _ => ?_
    · exact List.forall_mem_singleton.2 he
    · rw [List.length_append, List.length_singleton]
      omega
    · change (s.cand.ents ++ [e]).length = s.nsync
      rw [List.length_append, List.length_singleton, hl, hnsync]

theorem plainCand_decoding (h : Decoding s) (hs : s.stuffed = false) (he : Allowed s e)
    (hc : s.fstate.isCand = true)
    (hroom : s.replay.length + s.cand.ents.length < Config.maxCandidate) : Decoding (s.plainCand e) := by
  obtain ⟨framed, r⟩ := h
  obtain ⟨_, hreplayOk, hentsOk⟩ := (entriesOk_iff s).1 framed.entries
  have hfail (k : FailCause) : Decoding (s.fail k [e]) := by
    refine framed.fail k (List.forall_mem_singleton.2 he) ?_
    rw [List.length_singleton]
    omega
  unfold State.plainCand
  split
  · exact hfail .gap
  · split
    · exact hfail .char
    · refine dataByte_decoding (framed.withEntries hs ?_ hreplayOk ?_) ?_ e.b
      · exact List.forall_mem_append.2 ⟨hentsOk, List.forall_mem_singleton.2 he⟩
      · rw [List.length_append, List.length_singleton]
        omega
      · exact r.append hc e

theorem plainStep_decoding (h : Decoding s) (hs : s.stuffed = false) (he : Allowed s e)
    (hroom : s.replay.length + s.cand.ents.length < Config.maxCandidate) : Decoding (s.plainStep e) := by
  rcases s.plainStep_cases e with ⟨hf, h'⟩ | ⟨hf, h'⟩ | ⟨hf, h'⟩ | ⟨_, h'⟩
  · rw [h']; exact plainHunt_decoding h hs hf he hroom
  · rw [h']; exact plainSync_decoding h hf he hroom
  · rw [h']; exact plainCand_decoding h hs he hf hroom
  · rw [h']; exact h

end

/-! ## Stuffed profiles (R221, R228, R229) -/

theorem Decoding.discard {s : State} (h : Decoding s) (k : Nat) : Decoding (s.discard k) :=
  ⟨h.framed.congr rfl, h.record.congr rfl⟩

theorem Decoding.withEscp {s : State} (h : Decoding s) {b : Bool} (hs : s.stuffed = false → b = false)
    (hf : s.fstate = .hold → b = false) : Decoding { s with escp := b } :=
  ⟨h.framed.withEscp hs, h.record.withEscp hf⟩

theorem Record.of_trl {k : Nat} {s : State} (r : Record k s) (hf : s.fstate = .trl) :
    s.cand.len.length = s.lenw ∧ 0 < s.cand.pay.length ∧ s.cand.pay.length ≤ Config.bufSize ∧ s.cand.chk = [] := by
  have hshape := shape_of_record r
  simp only [candShape, hf, Bool.and_eq_true, decide_eq_true_eq, List.isEmpty_iff, beq_iff_eq, and_assoc] at hshape
  obtain ⟨_, _, hl, hpos, hp, hk⟩ := hshape
  exact ⟨hl, hpos, hp, hk⟩

theorem Record.of_payOpen {k : Nat} {s : State} (r : Record k s) (hf : s.fstate = .pay) (hx : s.cand.nexp = none) :
    s.cand.len.length = s.lenw ∧ s.cand.pay.length ≤ Config.bufSize ∧ s.cand.chk = [] := by
  have hshape := shape_of_record r
  simp only [candShape, hf, hx, Bool.and_eq_true, decide_eq_true_eq, List.isEmpty_iff, beq_iff_eq, and_assoc] at hshape
  obtain ⟨hl, hk, _, hp⟩ := hshape
  exact ⟨hl, hp, hk⟩

section

variable {s : State}

/-- The end marker closes a payload that is not empty (R229). -/
theorem endMark_decoding (h : Decoding s) (hs : s.stuffed = true) (hl : s.cand.len.length = s.lenw)
    (hpos : 0 < s.cand.pay.length) (hp : s.cand.pay.length ≤ Config.bufSize) (hk : s.cand.chk = []) :
    Decoding { s with fstate := .chk } := by
  have hchk : s.cand.chk.length < s.chkw := by rw [hk]; exact chkw_pos s
  exact ⟨h.framed.congr rfl, .chk rfl hl hpos hp hchk fun hns => nomatch hs.symm.trans hns⟩

theorem inCandidate_decoding (h : Decoding s) (hs : s.stuffed = true) (t : Token) : Decoding (s.inCandidate t) := by
  have ⟨framed, r⟩ := h
  cases t with
  | start =>
    refine (framed.fail_nil .restart).framed.start fun hns => ?_
    rw [State.stuffed_of_outsideDecoder (s.fail_outsideDecoder .restart [])] at hns
    exact nomatch hs.symm.trans hns
  | data v escd => exact dataByte_decoding framed (r.of_stuffed hs) v
  | badEsc v => exact framed.fail_nil .escape
  | endMark =>
    simp only [State.inCandidate]
    split
    next hf =>
      obtain ⟨hl, hpos, hp, hk⟩ := r.of_trl (beq_iff_eq.1 hf)
      exact endMark_decoding h hs hl hpos hp hk
    next =>
      split
      next hf =>
        obtain ⟨hf, hx⟩ := Bool.and_eq_true_iff.1 hf
        obtain ⟨hl, hp, hk⟩ := r.of_payOpen (beq_iff_eq.1 hf) (Option.isNone_iff_eq_none.1 hx)
        split
        · exact framed.fail_nil .length
        next hne =>
          have hpos : 0 < s.cand.pay.length := List.length_pos_iff.2 fun hnil => hne (List.isEmpty_iff.2 hnil)
          exact endMark_decoding h hs hl hpos hp hk
      next => exact framed.fail_nil .endMark

theorem outside_decoding (h : Decoding s) (hs : s.stuffed = true) (t : Token) : Decoding (s.outside t) := by
  cases t with
  | start => exact h.framed.start fun hns => nomatch hs.symm.trans hns
  | data v escd => exact h.discardByte v escd
  | endMark => exact h.discardByte s.etxb true
  | badEsc v => exact h.discardByte v true

theorem stuffedByte_decoding (h : Decoding s) (hs : s.stuffed = true) (hf : s.fstate ≠ .hold) (b : Byte) :
    Decoding (s.stuffedByte b) := by
  have hclear : Decoding { s with escp := false } := h.withEscp (fun _ => rfl) fun _ => rfl
  unfold State.stuffedByte
  split
  · exact h.withEscp (fun hns => nomatch hs.symm.trans hns) fun hhold => absurd hhold hf
  · dsimp only
    split
    · exact inCandidate_decoding hclear hs _
    · exact outside_decoding hclear hs _

theorem stuffedErr_decoding (h : Decoding s) : Decoding s.stuffedErr := by
  have hclear {t : State} (h : Decoding t) : Decoding ({ t with escp := false }.discard 1) :=
    Decoding.discard (h.withEscp (fun _ => rfl) fun _ => rfl) 1
  unfold State.stuffedErr
  dsimp only
  split
  · exact hclear (h.framed.fail_nil .char)
  · split
    · exact hclear (h.discard 1)
    · exact hclear h

/-- After the gap part of a step the decoder is still out of HOLD. -/
theorem afterGap_decoding (h : Decoding s) (hf : s.fstate ≠ .hold) (e : Entry) :
    Decoding (s.afterGap e) ∧ (s.afterGap e).fstate ≠ .hold := by
  unfold State.afterGap State.stuffedGap
  split
  · split
    · obtain ⟨hhunt, _⟩ := s.fail_decoder .gap []
      exact ⟨h.framed.fail_nil .gap, by rw [hhunt]; decide⟩
    · split
      · exact ⟨(h.discard 1).withEscp (fun _ => rfl) fun _ => rfl, hf⟩
      · exact ⟨h, hf⟩
  · exact ⟨h, hf⟩

theorem stuffedStep_decoding (h : Decoding s) (hs : s.stuffed = true) (hf : s.fstate ≠ .hold) (e : Entry) :
    Decoding (s.stuffedStep e) := by
  obtain ⟨hgap, hfgap⟩ := afterGap_decoding h hf e
  have hsgap : (s.afterGap e).stuffed = true :=
    (State.stuffed_of_outsideDecoder (s.afterGap_outsideDecoder e)).trans hs
  rw [State.stuffedStep_eq]
  split
  · exact stuffedErr_decoding hgap
  · exact stuffedByte_decoding hgap hsgap hfgap e.b

end

/-! ## The steps of FRX and RXT (R222, R245) -/

theorem handleEntry_decoding {s : State} {e : Entry} (h : Decoding s) (hf : s.fstate ≠ .hold) (he : Allowed s e)
    (hroom : s.stuffed = false → s.replay.length + s.cand.ents.length < Config.maxCandidate) :
    Decoding (s.handleEntry e) := by
  unfold State.handleEntry
  split
  next hs => exact stuffedStep_decoding h hs hf e
  next hs =>
    have hs := Bool.eq_false_iff.2 hs
    exact plainStep_decoding h hs he (hroom hs)

theorem inv_frxStep {s : State} (h : Inv s) : Inv s.frxStep := by
  cases hen : s.frxEnabled with
  | false =>
    rw [State.frxStep, hen]
    exact h
  | true =>
    obtain ⟨hopen, hfrmen, hf, _⟩ := s.frxEnabled_iff.1 hen
    obtain ⟨framed, r⟩ := h.decoding hopen hfrmen
    obtain ⟨hrxfifoOk, hreplayOk, hentsOk⟩ := (entriesOk_iff s).1 h.entries
    have hheld := framed.held_le
    rcases State.frxStep_of_enabled hen with ⟨e, rest, hs, hstep⟩ | ⟨e, rest, hnil, hs, hstep⟩
    · rw [hs] at hreplayOk
      rw [hs, List.length_cons] at hheld
      obtain ⟨he, hrest⟩ := List.forall_mem_cons.1 hreplayOk
      have hunstuffed : s.stuffed = false := Bool.eq_false_iff.2 fun hst => by
        rw [(framed.stuffed_nil hst).1] at hs
        cases hs
      have hpopped : Decoding { s with replay := rest } :=
        ⟨framed.withEntries hunstuffed hentsOk hrest (by omega), r.congr rfl⟩
      rw [hstep]
      refine (handleEntry_decoding hpopped hf he fun _ => ?_).inv
      dsimp only
      omega
    · rw [hs] at hrxfifoOk
      obtain ⟨he, _⟩ := List.forall_mem_cons.1 hrxfifoOk
      have hpopped : Decoding { s with rxfifo := rest } := (inv_popRxfifo h hs).decoding hopen hfrmen
      rw [hstep]
      refine (handleEntry_decoding hpopped hf he fun hst => ?_).inv
      have := r.ents_lt framed.legal hst
      dsimp only
      rw [hnil, List.length_nil]
      omega

theorem rxtEnabled_open {s : State} (h : s.rxtEnabled = true) : s.en = true ∧ s.frmen = true := by
  simp only [State.rxtEnabled, Bool.and_eq_true] at h
  obtain ⟨⟨⟨⟨⟨hen, hfrmen⟩, _⟩, _⟩, _⟩, _⟩ := h
  exact ⟨hen, hfrmen⟩

theorem inv_rxtStep {s : State} (h : Inv s) : Inv s.rxtStep := by
  unfold State.rxtStep
  split
  next hen =>
    obtain ⟨hopen, hfrmen⟩ := rxtEnabled_open hen
    obtain ⟨framed, r⟩ := h.decoding hopen hfrmen
    split
    · have hcleared := (framed.discardByte s.sync0 false).withCleared
      exact Decoding.inv ⟨hcleared.congr rfl, .hunt rfl rfl⟩
    · exact (framed.fail_nil .timeout).inv
  next => exact h

end Sys2Proof.Safety

/-! SUPPORT. The invariant and the moves of LINE, TXU and the reset input; every step keeps it. -/

namespace Sys2Proof.Safety

open Sys2Proof.Machine

/-! ## Arriving characters (R211 to R214) -/

/-- What LINE may present is allowed with either gap flag. -/
theorem allowed_of_lineAllowed {s : State} {e : Entry} (h : s.lineAllowed e = true) (g : Bool) :
    Allowed s { e with gap := g } := by
  simp only [State.lineAllowed, Bool.and_eq_true] at h
  obtain ⟨⟨_, hpe⟩, hbrk⟩ := h
  simp [Allowed, State.lineAllowed, hpe, hbrk]

theorem inv_takeChar {s : State} {e : Entry} (h : Inv s) (hen : s.en = true) (he : s.lineAllowed e = true) :
    Inv (s.takeChar e) := by
  have hopen {P : Prop} (hclosed : s.en = false) : P := nomatch hen.symm.trans hclosed
  obtain ⟨hdepth, hoobq⟩ := h.depths
  obtain ⟨hrxfifoOk, hothers⟩ := (entriesOk_iff s).1 h.entries
  rcases s.takeChar_cases e with ⟨_, hover⟩ | ⟨hroom, k, htaken⟩
  · have hgap : Inv { s with gapPend := true } := { h with closed := fun hclosed => hopen hclosed }
    rw [hover]
    exact hgap.congr rfl
  · rw [htaken]
    refine { h with
      depths := ⟨?_, hoobq⟩
      closed := fun hclosed => hopen hclosed
      entries := (entriesOk_iff _).2 ⟨List.forall_mem_append.2 ⟨hrxfifoOk, ?_⟩, hothers⟩ }
    · unfold Config.rxfifoDepth at *
      rw [List.length_append, List.length_singleton]
      omega
    · exact List.forall_mem_singleton.2 (allowed_of_lineAllowed he s.gapPend)

theorem inv_arrive {s : State} {e : Entry} (h : Inv s) (he : s.lineAllowed e = true) (src : CharSource) :
    Inv (s.arrive e src) := by
  rcases s.arrive_cases e src with heq | ⟨hen, _, heq⟩
  · rw [heq]; exact h
  · rw [heq]; exact inv_takeChar h hen he

theorem inv_lineStep {s : State} (h : Inv s) (e : Entry) : Inv (s.lineStep e) := by
  unfold State.lineStep
  split
  next he => exact inv_arrive h he .ext
  next => exact h

/-! ## The transmitter (R195 to R200) -/

theorem inv_loadStep {s : State} (h : Inv s) : Inv s.loadStep := by
  rcases s.loadStep_cases with heq | ⟨hen, _, _, b, rest, hq, heq⟩
  · rw [heq]; exact h
  · obtain ⟨hmax, hraw, _⟩ := h.tx
    rw [hq, List.length_cons] at hmax hraw
    rw [heq]
    refine h.withTx (fr := s.txfr) (fun hclosed => nomatch hen.symm.trans hclosed)
      ⟨Nat.le_of_succ_le hmax, fun hfr => Nat.le_of_succ_le (hraw hfr), fun _ => .inr rfl⟩

/-- The end of EMIT: with TXSH empty, a frame goes on only if it has a byte left in TXQ (R197, R199). -/
theorem inv_endFrame {s : State} (h : Inv s) (hen : s.en = true) : Inv ({ s with txsh := none }.endFrame) := by
  have hopen {P : Prop} (hclosed : s.en = false) : P := nomatch hen.symm.trans hclosed
  obtain ⟨hmax, hraw, _⟩ := h.tx
  rcases State.endFrame_cases { s with txsh := none } with ⟨_, hnil, heq⟩ | ⟨hgoes, heq⟩
  · rw [heq]
    have hq : s.txq.length ≤ 0 := by rw [show s.txq = [] from hnil]; exact le_rfl
    have hended : Inv { s with txq := s.txq, txsh := none, txfr := false } :=
      h.withTx hopen ⟨hmax, fun _ => hq.trans (Nat.zero_le _), nofun⟩
    exact hended.congr rfl
  · rw [heq]
    exact h.withTx (q := s.txq) (fr := s.txfr) hopen ⟨hmax, hraw, fun hfr => .inl fun hnil => hgoes ⟨hfr, hnil⟩⟩

theorem arrive_loopback (s : State) (e : Entry) :
    s.arrive e .loopback = if s.en && s.rxen && s.loop then s.takeChar e else s := by
  unfold State.arrive
  cases s.en with
  | false => rfl
  | true =>
    cases s.rxen with
    | false => rfl
    | true => cases s.loop <;> rfl

theorem takeChar_txsh (s : State) (e : Entry) (sh : Option Byte) :
    { s with txsh := sh }.takeChar e = { s.takeChar e with txsh := sh } := by
  unfold State.takeChar State.signalIf
  dsimp only
  split
  · rfl
  · cases e.pe <;> cases e.se <;> cases e.brk <;> rfl

/-- The block's own receiver does not look at TXSH. -/
theorem loopDeliver_txsh (s : State) (b : Byte) (sh : Option Byte) :
    { s with txsh := sh }.loopDeliver b = { s.loopDeliver b with txsh := sh } := by
  simp only [State.loopDeliver, arrive_loopback, takeChar_txsh]
  change (if s.en && s.rxen && s.loop then _ else _) = _
  split <;> rfl

@[simp] theorem arrive_en (s : State) (e : Entry) (src : CharSource) : (s.arrive e src).en = s.en := by
  rcases s.arrive_cases e src with h | ⟨_, _, h⟩
  · rw [h]
  · rcases s.takeChar_cases e with ⟨_, h'⟩ | ⟨_, _, h'⟩
    · rw [h, h']; rfl
    · rw [h, h']; rfl

theorem inv_emitStep {s : State} (h : Inv s) : Inv s.emitStep := by
  rcases s.emitStep_cases with heq | ⟨hen, b, _, ⟨_, heq⟩ | ⟨_, heq⟩⟩
  · rw [heq]; exact h
  · rw [heq, loopDeliver_txsh]
    exact inv_endFrame (inv_arrive h (by simp [State.lineAllowed]) .loopback) (by rw [State.loopDeliver, arrive_en, hen])
  · have hsent : Inv { s with lineOut := s.lineOut ++ [b] } := h.congr rfl
    rw [heq]
    exact inv_endFrame hsent hen

/-! ## Every step -/

theorem inv_releaseReset {s : State} (h : Inv s) : Inv s.releaseReset := by
  unfold State.releaseReset
  split
  · exact inv_reset.congr rfl
  · exact h

theorem inv_agentMove {s : State} (h : Inv s) (m : Move) : Inv (agentMove m s) := by
  have unlessReset {t : State} (ht : Inv t) : Inv (if s.resetIn then s else t) := by
    split
    · exact h
    · exact ht
  cases m with
  | host w => exact h
  | line e => exact unlessReset (inv_lineStep h e)
  | load => exact unlessReset (inv_loadStep h)
  | emit => exact unlessReset (inv_emitStep h)
  | frx => exact unlessReset (inv_frxStep h)
  | rxt => exact unlessReset (inv_rxtStep h)
  | assertReset => exact h.congr rfl
  | releaseReset => exact inv_releaseReset h

theorem inv_hostStep {s t : State} {w : HostWord} (h : Inv s) (ht : hostStep w s = .next t) : Inv t := by
  unfold hostStep at ht
  split at ht
  · cases ht
  · split at ht
    · exact inv_of_exec h ht
    · cases ht

theorem inv_step {s t : State} (h : Inv s) (hstep : step s = .next t) : Inv t := by
  have hrest (rest : List Move) : Inv { s with sched := rest } := h.congr rfl
  rcases fetch_cases s with ⟨hs, hm, _⟩ | ⟨m, hs, hm, _⟩ | ⟨w, rest, hs, _⟩ | ⟨m, rest, hs, hm, _⟩
  · rw [step_idle hs hm] at hstep
    cases hstep
    exact h
  · rw [step_internal hs hm] at hstep
    cases hstep
    exact inv_agentMove h m
  · rw [step_host hs] at hstep
    exact inv_hostStep (hrest rest) hstep
  · rw [step_agent hs hm] at hstep
    cases hstep
    exact inv_agentMove (hrest rest) m

end Sys2Proof.Safety

namespace Sys2Proof.Proofs

open Sys2Proof.Machine Sys2Proof.Safety

/-- Settles O60: a host access by its effects (`inv_of_effect`), a move of the decoder by the record it leaves
(`handleEntry_decoding`), and the other moves one by one. -/
theorem everyStepKeepsTheInvariant : Obligations.EveryStepKeepsTheInvariant := by
  unfold Obligations.EveryStepKeepsTheInvariant
  exact fun _ _ => inv_step

/-- Settles O59: after reset nothing is in flight. -/
theorem resetStateMeetsTheInvariant : Obligations.ResetStateMeetsTheInvariant := by
  unfold Obligations.ResetStateMeetsTheInvariant
  exact inv_reset

end Sys2Proof.Proofs

/-! SUPPORT. What the STATUS and FIFOSTAT words show (R32 to R34, R42), LEGAL (R30) and the reset state (R61). -/

namespace Sys2Proof.Machine

open Sys2Proof.Safety

/-- The live bits, each where R33 has it. -/
theorem State.liveBits_getLsbD (s : State) :
    s.liveBits.getLsbD 0 = (s.fstate == .hold) ∧
    s.liveBits.getLsbD 1 = (s.fstate != .hunt && s.fstate != .hold) ∧
    s.liveBits.getLsbD 2 = !s.rxfifo.isEmpty ∧
    s.liveBits.getLsbD 3 = !s.oobq.isEmpty ∧
    s.liveBits.getLsbD 4 = s.txBusy ∧
    s.liveBits.getLsbD 5 = s.txfr ∧
    s.liveBits.getLsbD 6 = s.txFull ∧
    s.liveBits.getLsbD 7 = false := by
  simp only [State.liveBits, BitVec.getLsbD_append, BitVec.getLsbD_ofBool]
  simp

/-! The fields of the STATUS word: the sticky bits, two bits that are 0, the live bits, FRMCAUSE, and 0 above them. -/

theorem State.statusWord_sticky (s : State) {i : Nat} (hi : i < 14) :
    s.statusWord.getLsbD i = s.sticky.getLsbD i := by
  rw [State.statusWord, BitVec.getLsbD_append, if_pos hi]

theorem State.statusWord_gap (s : State) {i : Nat} (hlo : 14 ≤ i) (hhi : i < 16) : s.statusWord.getLsbD i = false := by
  rw [State.statusWord, BitVec.getLsbD_append, if_neg (by omega), BitVec.getLsbD_append, if_pos (by omega),
    BitVec.getLsbD_zero]

theorem State.statusWord_live (s : State) {i : Nat} (hi : i < 8) :
    s.statusWord.getLsbD (16 + i) = s.liveBits.getLsbD i := by
  rw [State.statusWord, BitVec.getLsbD_append, if_neg (by omega), BitVec.getLsbD_append, if_neg (by omega),
    BitVec.getLsbD_append, if_pos (by omega), show 16 + i - 14 - 2 = i by omega]

theorem State.statusWord_cause (s : State) {i : Nat} (hi : i < 4) :
    s.statusWord.getLsbD (24 + i) = s.frmCause.getLsbD i := by
  rw [State.statusWord, BitVec.getLsbD_append, if_neg (by omega), BitVec.getLsbD_append, if_neg (by omega),
    BitVec.getLsbD_append, if_neg (by omega), BitVec.getLsbD_append, if_pos (by omega),
    show 24 + i - 14 - 2 - 8 = i by omega]

theorem State.statusWord_above (s : State) {i : Nat} (hi : 28 ≤ i) : s.statusWord.getLsbD i = false := by
  rw [State.statusWord, BitVec.getLsbD_append, if_neg (by omega), BitVec.getLsbD_append, if_neg (by omega),
    BitVec.getLsbD_append, if_neg (by omega), BitVec.getLsbD_append, if_neg (by omega), BitVec.getLsbD_zero]

/-- The value of two fields side by side. -/
theorem toNat_append_eq_add {m n : Nat} (x : BitVec m) (y : BitVec n) : (x ++ y).toNat = 2 ^ n * x.toNat + y.toNat := by
  rw [BitVec.toNat_append, ← Nat.shiftLeft_add_eq_or_of_lt y.isLt, Nat.shiftLeft_eq, Nat.mul_comm]

/-- FIFOSTAT for levels that fit their fields (R42). -/
theorem State.fifostatWord_toNat {s : State} (h : DepthsOk s) :
    s.fifostatWord.toNat = s.rxfifo.length + 2 ^ 8 * min s.txq.length 255 + 2 ^ 16 * s.oobq.length := by
  obtain ⟨hrx, hoob⟩ := h
  unfold Config.rxfifoDepth at hrx
  unfold Config.oobDepth at hoob
  have htx : min s.txq.length 255 ≤ 255 := Nat.min_le_right _ _
  have hfield {k : Nat} (hk : k < 2 ^ 8) : (BitVec.ofNat 8 k).toNat = k := by
    rw [BitVec.toNat_ofNat, Nat.mod_eq_of_lt hk]
  rw [State.fifostatWord, toNat_append_eq_add, toNat_append_eq_add, toNat_append_eq_add, BitVec.toNat_zero,
    hfield (by omega), hfield (by omega), hfield (by omega)]
  omega

/-! ## LEGAL -/

theorem State.lenw_eq_iff (s : State) {n : Nat} (hn : n < 4) :
    s.lenw = n ↔ s.prof0.extractLsb' 2 2 = BitVec.ofNat 2 n := by
  rw [State.lenw, ← BitVec.toNat_inj, BitVec.toNat_ofNat, Nat.mod_eq_of_lt hn]

theorem State.nsync_eq_two_iff (s : State) : s.nsync = 2 ↔ s.nsync2 = true := by
  unfold State.nsync
  cases s.nsync2 <;> decide

theorem State.nsync_eq_one_iff (s : State) : s.nsync = 1 ↔ s.nsync2 = false := by
  unfold State.nsync
  cases s.nsync2 <;> decide

/-- The last byte of SYNCSEQ, as R29 counts it. -/
theorem State.syncSeq_getD_last (s : State) : s.syncSeq.getD (s.nsync - 1) 0#8 = s.lastSync := by
  unfold State.syncSeq State.nsync State.lastSync
  cases s.nsync2 <;> rfl

/-- A condition of LEGAL that binds one kind of profile. -/
theorem not_or_eq_true_iff (a b : Bool) : (!a || b) = true ↔ (a = true → b = true) := by
  cases a <;> simp

theorem State.legal_iff (s : State) :
    s.legal = true ↔
      s.baudDiv ≠ 0#16 ∧ s.parity ≠ 3#2 ∧ s.lenw ≠ 3 ∧ (s.lenw = 0 → s.endmk = true) ∧
      (s.endmk = true → s.stuffed = true) ∧
      (s.stuffed = true ∧ s.nsync = 2 → s.sync0 = s.esc ∧ s.sync1 ≠ s.esc) ∧
      (s.stuffed = true ∧ s.nsync = 1 → s.sync0 ≠ s.esc) ∧
      (s.endmk = true → s.etxb ≠ s.esc ∧ s.etxb ≠ s.lastSync) := by
  have hlen : (s.lenw != 0 || s.endmk) = true ↔ (s.lenw = 0 → s.endmk = true) := by
    rw [← Bool.not_not (s.lenw != 0), not_or_eq_true_iff, Bool.not_eq_true', bne_eq_false_iff_eq]
  simp only [State.legal, not_or_eq_true_iff, hlen, s.nsync_eq_two_iff, s.nsync_eq_one_iff, Bool.and_eq_true,
    Bool.not_eq_true', bne_iff_ne, beq_iff_eq, and_assoc]

end Sys2Proof.Machine

namespace Sys2Proof.Proofs

open Sys2Proof.Machine Sys2Proof.Safety

/-- Settles O15, field by field of the two words. -/
theorem statusAndFifostatShowTheState : Obligations.StatusAndFifostatShowTheState := by
  unfold Obligations.StatusAndFifostatShowTheState
  refine ⟨fun s => ?_, fun s h => State.fifostatWord_toNat h⟩
  obtain ⟨hhold, hbusy, hrx, hoob, htxbusy, hfr, hfull, hnone⟩ := s.liveBits_getLsbD
  have live {i : Nat} (hi : i < 8) := s.statusWord_live hi
  refine ⟨fun _ => s.statusWord_sticky, s.statusWord_gap (by decide) (by decide),
    s.statusWord_gap (by decide) (by decide), ?hold, ?busy, ?rx, ?oob, ?txbusy, ?fr, ?full, ?none, fun _ => s.statusWord_cause, fun _ => s.statusWord_above⟩
  case hold => rw [live (i := 0) (by decide), hhold, beq_iff_eq]
  case busy => rw [live (i := 1) (by decide), hbusy]; simp
  case rx => rw [live (i := 2) (by decide), hrx]; simp [List.length_pos_iff]
  case oob => rw [live (i := 3) (by decide), hoob]; simp [List.length_pos_iff]
  case txbusy =>
    rw [live (i := 4) (by decide), htxbusy]
    simp [State.txBusy, List.length_pos_iff, Option.isSome_iff_ne_none]
  case fr => rw [live (i := 5) (by decide), hfr]
  case full => rw [live (i := 6) (by decide), hfull, State.txFull, Bool.or_eq_true, decide_eq_true_iff]; rfl
  case none => rw [live (i := 7) (by decide), hnone]

/-- Settles O17, condition by condition (`State.legal_iff`). -/
theorem legalIsTheEightConditions : Obligations.LegalIsTheEightConditions := by
  unfold Obligations.LegalIsTheEightConditions
  intro s
  have hnone := s.lenw_eq_iff (n := 0) (by decide)
  have hthree := s.lenw_eq_iff (n := 3) (by decide)
  simp only [s.legal_iff, s.syncSeq_getD_last, ne_eq, hnone, hthree]
  rfl

/-- Settles O55: the reset values by evaluation, the release by its definition. -/
theorem hardwareResetGivesTheResetState : Obligations.HardwareResetGivesTheResetState := by
  unfold Obligations.HardwareResetGivesTheResetState
  refine ⟨?values, fun s hr => ?release⟩
  case values =>
    refine ⟨rfl, rfl, rfl, rfl, rfl, rfl, rfl, rfl, rfl, rfl, rfl, rfl, rfl, rfl, rfl, rfl, rfl, rfl, fun _ => rfl, ?_⟩
    decide
  case release => exact if_pos hr

end Sys2Proof.Proofs

/-! SUPPORT. The window's offsets, region by region (20_memory.md R71), and what the decoder makes of an access to each. -/

namespace Sys2Proof

/-! ## Sizes -/

theorem Size.ofBytes_bytes (size : Size) : Size.ofBytes size.bytes = .ok size := by cases size <;> rfl

/-- Data cut to the size fits it. -/
@[simp] theorem Size.fits_and_mask (size : Size) (d : Word) : size.fits (d &&& size.mask) = true := by
  rw [Size.fits, BitVec.and_assoc, BitVec.and_self, beq_self_eq_true]

/-- Every size divides the length of a buffer, so a buffer's base does not matter for the alignment (R73). -/
theorem Size.bytes_dvd_256 (size : Size) : size.bytes ∣ 256 := by cases size <;> decide

theorem Size.add_mod_bytes (size : Size) (p n : Nat) : (256 * p + n) % size.bytes = n % size.bytes := by
  rw [Nat.add_mod, Nat.mod_eq_zero_of_dvd (Dvd.dvd.mul_right size.bytes_dvd_256 p), Nat.zero_add, Nat.mod_mod]

/-! ## The register region -/

theorem Reg.ofIndex_index (r : Reg) : Reg.ofIndex r.index = r := by
  cases r with
  | reserved k => exact congrArg Reg.reserved (Fin.ext (Nat.mod_eq_of_lt k.isLt))
  | _ => rfl

theorem Reg.index_lt (r : Reg) : r.index < 64 := by
  cases r with
  | reserved k => have := k.isLt; rw [Reg.index]; omega
  | _ => decide

/-- Every word of the register region is a slot. -/
theorem Reg.index_ofIndex {i : Nat} (hi : i < 64) : (Reg.ofIndex i).index = i := by
  unfold Reg.ofIndex
  split
  case h_23 k =>
    change k % 42 + 22 = k + 22
    rw [Nat.mod_eq_of_lt (by omega)]
  all_goals rfl

theorem Reg.offset_lt (r : Reg) (lo : BitVec 2) : (r.offset lo).toNat < 0x100 := by
  have := r.index_lt
  have := lo.isLt
  rw [Laws.reg_offset_toNat]
  omega

/-- The offset of byte `lo` of a slot, as the statements write it. -/
theorem Reg.offset_eq_add (r : Reg) (lo : BitVec 2) : r.offset lo = BitVec.ofNat 12 (4 * r.index) + lo.setWidth 12 := by
  have := r.index_lt
  have := lo.isLt
  have := Laws.reg_offset_toNat r lo
  apply BitVec.eq_of_toNat_eq
  rw [BitVec.toNat_add, BitVec.toNat_ofNat, BitVec.toNat_setWidth]
  omega

@[simp] theorem Reg.offset_lo (r : Reg) (lo : BitVec 2) : (r.offset lo).extractLsb' 0 2 = lo := by
  rw [Reg.offset, BitVec.extractLsb'_append_eq_of_add_le (by decide), BitVec.extractLsb'_eq_self]

@[simp] theorem Reg.offset_slot (r : Reg) (lo : BitVec 2) :
    Reg.ofIndex ((r.offset lo).extractLsb' 2 10).toNat = r := by
  have := lo.isLt
  have hi : ((r.offset lo).extractLsb' 2 10).toNat = r.index := by
    have := r.index_lt
    rw [BitVec.extractLsb'_toNat, Laws.reg_offset_toNat, Nat.shiftRight_eq_div_pow]
    omega
  rw [hi, Reg.ofIndex_index]

@[simp] theorem Reg.offset_page (r : Reg) (lo : BitVec 2) : ((r.offset lo).extractLsb' 8 4).toNat = 0 := by
  have := r.offset_lt lo
  rw [BitVec.extractLsb'_toNat, Nat.shiftRight_eq_div_pow]
  omega

/-! ## The buffers -/

@[simp] theorem page_append_index (page : BitVec 4) (i : Byte) : (page ++ i).extractLsb' 0 8 = i := by
  rw [BitVec.extractLsb'_append_eq_of_add_le (by decide), BitVec.extractLsb'_eq_self]

@[simp] theorem page_append_page (page : BitVec 4) (i : Byte) : (page ++ i).extractLsb' 8 4 = page := by
  rw [BitVec.extractLsb'_append_eq_of_le (by decide), BitVec.extractLsb'_eq_self]

/-- The parts of the window (R71): a byte of a register slot, of TXBUF, of RXBUF, or the reserved rest. -/
inductive Offset.Region : Offset → Prop
  | reg (r : Reg) (lo : BitVec 2) : Region (r.offset lo)
  | txbuf (i : Byte) : Region (0x1#4 ++ i)
  | rxbuf (i : Byte) : Region (0x2#4 ++ i)
  | high (off : Offset) (h : 0x300#12 ≤ off) : Region off

/-- Every offset lies in one of the parts. -/
theorem Offset.region (off : Offset) : Offset.Region off := by
  have hoff := off.isLt
  have hpage (page : BitVec 4) (h : off.toNat / 256 = page.toNat) : page ++ off.extractLsb' 0 8 = off := by
    apply BitVec.eq_of_toNat_eq
    rw [Laws.page_toNat, BitVec.extractLsb'_toNat, Nat.shiftRight_zero]
    omega
  by_cases hreg : off.toNat < 0x100
  · have hoffset : (Reg.ofIndex (off.toNat / 4)).offset (off.extractLsb' 0 2) = off := by
      apply BitVec.eq_of_toNat_eq
      rw [Laws.reg_offset_toNat, Reg.index_ofIndex (by omega), BitVec.extractLsb'_toNat, Nat.shiftRight_zero]
      omega
    rw [← hoffset]
    exact .reg _ _
  by_cases htx : off.toNat < 0x200
  · rw [← hpage 0x1#4 (by rw [BitVec.toNat_ofNat]; omega)]
    exact .txbuf _
  by_cases hrx : off.toNat < 0x300
  · rw [← hpage 0x2#4 (by rw [BitVec.toNat_ofNat]; omega)]
    exact .rxbuf _
  · exact .high off (by rw [BitVec.le_def, BitVec.toNat_ofNat]; omega)

/-! ## The decoder on each part -/

theorem decode_bus (dir : Dir) (off : Offset) (size : Size) (d : Word) :
    decode (.bus { dir := dir, off := off, size := size.bytes, wdata := d }) = .ok (decodeAccess dir off size d) := by
  simp only [decode, Size.ofBytes_bytes]

theorem decodeAccess_read_reg (r : Reg) (lo : BitVec 2) (size : Size) (d : Word) :
    decodeAccess .read (r.offset lo) size d = decodeRegRead r lo size := by
  simp only [decodeAccess, Reg.offset_page, Reg.offset_slot, Reg.offset_lo]

theorem decodeAccess_write_reg (r : Reg) (lo : BitVec 2) (size : Size) (d : Word) :
    decodeAccess .write (r.offset lo) size d = decodeRegWrite (r.offset lo) r lo size (d &&& size.mask) := by
  simp only [decodeAccess, Reg.offset_page, Reg.offset_slot, Reg.offset_lo]

theorem decodeAccess_txbuf (dir : Dir) (i : Byte) (size : Size) (d : Word) :
    decodeAccess dir (0x1#4 ++ i) size d =
      if dir = .write then .wrTxbuf i size (d &&& size.mask) else .rdTxbuf i size := by
  have hpage : ((0x1#4 ++ i).extractLsb' 8 4).toNat = 1 := by rw [page_append_page]; rfl
  cases dir <;> simp only [decodeAccess, hpage, page_append_index] <;> rfl

theorem decodeAccess_rxbuf (dir : Dir) (i : Byte) (size : Size) (d : Word) :
    decodeAccess dir (0x2#4 ++ i) size d =
      if dir = .write then .wrRxbuf i size (d &&& size.mask) else .rdRxbuf i size := by
  have hpage : ((0x2#4 ++ i).extractLsb' 8 4).toNat = 2 := by rw [page_append_page]; rfl
  cases dir <;> simp only [decodeAccess, hpage, page_append_index] <;> rfl

theorem Offset.page_of_high {off : Offset} (h : 0x300#12 ≤ off) : 3 ≤ (off.extractLsb' 8 4).toNat := by
  have hoff := off.isLt
  rw [BitVec.le_def, BitVec.toNat_ofNat] at h
  rw [BitVec.extractLsb'_toNat, Nat.shiftRight_eq_div_pow]
  omega

theorem decodeAccess_high {off : Offset} (h : 0x300#12 ≤ off) (dir : Dir) (size : Size) (d : Word) :
    decodeAccess dir off size d =
      if dir = .write then .wrReserved off size (d &&& size.mask) else .rdReservedHigh off size := by
  have hpage := Offset.page_of_high h
  unfold decodeAccess
  dsimp only
  split
  case h_7 => rfl
  case h_8 => rfl
  all_goals omega

/-! ## What the decoder answers is well-formed and encodes the access -/

theorem decodeRegRead_wellFormed (r : Reg) (lo : BitVec 2) (size : Size) :
    (decodeRegRead r lo size).wellFormed = true := by
  cases r <;> rfl

theorem encode_decodeRegRead (r : Reg) (lo : BitVec 2) (size : Size) :
    encode (decodeRegRead r lo size) = regRead r lo size := by
  cases r <;> rfl

theorem Reg.offset_reservedLow (k : Fin 42) (lo : BitVec 2) :
    Offset.reservedLow ((Reg.reserved k).offset lo) = true := by
  have htoNat := Laws.reg_offset_toNat (.reserved k) lo
  have hlt := (Reg.reserved k).offset_lt lo
  rw [Reg.index] at htoNat
  rw [Offset.reservedLow, Bool.and_eq_true, decide_eq_true_iff, decide_eq_true_iff, BitVec.le_def, BitVec.lt_def,
    BitVec.toNat_ofNat, BitVec.toNat_ofNat]
  omega

theorem decodeRegWrite_wellFormed (r : Reg) (lo : BitVec 2) {size : Size} {d : Word} (hd : size.fits d = true) :
    (decodeRegWrite (r.offset lo) r lo size d).wellFormed = true := by
  cases r with
  | reserved k => simp only [decodeRegWrite, Instr.wellFormed, Reg.offset_reservedLow, hd, Bool.true_or, Bool.and_self]
  | _ => exact hd

theorem encode_decodeRegWrite (r : Reg) (lo : BitVec 2) (size : Size) (d : Word) :
    encode (decodeRegWrite (r.offset lo) r lo size d) = regWrite r lo size d := by
  cases r <;> rfl

end Sys2Proof

namespace Sys2Proof.Proofs

/-- Settles O4, part by part of the window (`Offset.region`). -/
theorem encodeOfDecodeIsTheAccess : Obligations.EncodeOfDecodeIsTheAccess := by
  unfold Obligations.EncodeOfDecodeIsTheAccess
  intro dir off size d
  refine ⟨_, decode_bus dir off size d, ?_⟩
  cases off.region with
  | reg r lo =>
    cases dir with
    | read =>
      rw [decodeAccess_read_reg]
      exact ⟨decodeRegRead_wellFormed r lo size, encode_decodeRegRead r lo size⟩
    | write =>
      rw [decodeAccess_write_reg]
      exact ⟨decodeRegWrite_wellFormed r lo (size.fits_and_mask d), encode_decodeRegWrite r lo size _⟩
  | txbuf i =>
    rw [decodeAccess_txbuf]
    cases dir with
    | read => exact ⟨rfl, rfl⟩
    | write => exact ⟨size.fits_and_mask d, rfl⟩
  | rxbuf i =>
    rw [decodeAccess_rxbuf]
    cases dir with
    | read => exact ⟨rfl, rfl⟩
    | write => exact ⟨size.fits_and_mask d, rfl⟩
  | high off h =>
    have hhigh : Offset.reservedHigh off = true := decide_eq_true h
    rw [decodeAccess_high h]
    cases dir with
    | read => exact ⟨hhigh, rfl⟩
    | write => exact ⟨by simp [Instr.wellFormed, hhigh], rfl⟩

/-- Settles O6, each word by evaluation. -/
theorem writtenOutAccessesDecode : Obligations.WrittenOutAccessesDecode := by
  unfold Obligations.WrittenOutAccessesDecode
  exact ⟨rfl, rfl, rfl, rfl, rfl, rfl⟩

end Sys2Proof.Proofs

/-! SUPPORT. A register or buffer access as its checks decide: its effect, or BusError at its own offset (20_memory.md
R72 to R74); the locked registers (R121), and the accesses without effect (R76, R77). -/

namespace Sys2Proof.Machine

/-! ## Checks -/

theorem State.regAccess_ok (s : State) (r : Reg) (effect : Host.Outcome State Fault Refusal) :
    s.regAccess r 0#2 .b4 effect = effect := rfl

theorem State.regAccess_bad {lo : BitVec 2} {size : Size} (h : ¬(size = .b4 ∧ lo = 0#2)) (s : State) (r : Reg)
    (effect : Host.Outcome State Fault Refusal) :
    s.regAccess r lo size effect = .next { s with resp := .error (r.offset lo) } := by
  rcases s.regAccess_cases r lo size effect with ⟨hok, _⟩ | ⟨_, e⟩
  · exact absurd hok h
  · exact e

/-- The low offset bits are 0 at a multiple of 4. -/
theorem lo_eq_zero_iff (off : Offset) : off.extractLsb' 0 2 = 0#2 ↔ off.toNat % 4 = 0 := by
  rw [← BitVec.toNat_inj, BitVec.extractLsb'_toNat, Nat.shiftRight_zero, BitVec.toNat_ofNat, Nat.zero_mod]

/-- The offset of byte `i` of a buffer, as the statements write it. -/
theorem bufferOffset_eq_add (page : BitVec 4) (i : Byte) :
    bufferOffset page i = BitVec.ofNat 12 (256 * page.toNat) + i.setWidth 12 := by
  have := page.isLt
  have := i.isLt
  have := Laws.page_toNat page i
  apply BitVec.eq_of_toNat_eq
  rw [bufferOffset, BitVec.toNat_add, BitVec.toNat_ofNat, BitVec.toNat_setWidth]
  omega

/-! ## Locked registers -/

theorem State.lockedWrite_of_closed {s : State} (hen : s.en = false) (stored : State) :
    s.lockedWrite stored = stored := by
  rw [State.lockedWrite, hen, if_neg Bool.false_ne_true]

theorem State.lockedWrite_of_open {s : State} (hen : s.en = true) (stored : State) :
    s.lockedWrite stored = { s with sticky := s.sticky ||| 0x0400#14 } := by
  rw [State.lockedWrite, hen, if_pos rfl]
  rfl

/-! ## Accesses without effect -/

theorem execWrReserved_of_high {off : Offset} (h : 0x300#12 ≤ off) (size : Size) (d : Word) (s : State) :
    execWrReserved off size d s = s.complete := by
  simp only [execWrReserved, h, decide_true, Bool.true_or, if_true]

/-- In the register region a write to a reserved offset is checked like every access there. -/
theorem execWrReserved_of_low {off : Offset} (h : off < 0x100#12) (size : Size) (d : Word) (s : State) :
    execWrReserved off size d s =
      if size = .b4 ∧ off.toNat % 4 = 0 then s.complete else s.busError off := by
  have hlow : ¬0x300#12 ≤ off := BitVec.not_le.2 (BitVec.lt_trans h (by decide))
  simp only [execWrReserved, hlow, decide_false, Bool.false_or, regionOk_iff, lo_eq_zero_iff]

theorem execWrRxbuf_eq (i : Byte) (size : Size) (d : Word) (s : State) :
    execWrRxbuf i size d s =
      if i.toNat % size.bytes = 0 then s.complete else s.busError (0x200#12 + i.setWidth 12) := by
  simp only [execWrRxbuf, bufferOk_iff, bufferOffset_eq_add]
  rfl

end Sys2Proof.Machine

namespace Sys2Proof.Proofs

open Sys2Proof.Machine

/-- Settles O16: each of the six is one `lockedWrite` behind the checks of a register access. -/
theorem lockedRegistersChangeOnlyWhileClosed : Obligations.LockedRegistersChangeOnlyWhileClosed := by
  unfold Obligations.LockedRegistersChangeOnlyWhileClosed
  simp only [exec, execWrLine, execWrProf0, execWrProf1, execWrProf2, execWrCrc0, execWrCrc1]
  refine ⟨fun s d hen => ?closed, fun s d hen => ?opened, fun s lo size d hbad => ?bad⟩
  case closed =>
    have hall : d &&& 0xFFFFFFFF#32 = d := BitVec.and_allOnes
    simp only [State.regAccess_ok, State.lockedWrite_of_closed hen, hall, State.complete, and_self]
  case opened =>
    simp only [State.regAccess_ok, State.lockedWrite_of_open hen, State.complete, and_self]
  case bad =>
    simp only [State.regAccess_bad hbad, Reg.offset_eq_add, Reg.index, and_self]

/-- Settles O23, kind by kind of access. -/
theorem readOnlyAndReservedAccessesHaveNoEffect : Obligations.ReadOnlyAndReservedAccessesHaveNoEffect := by
  unfold Obligations.ReadOnlyAndReservedAccessesHaveNoEffect
  simp only [exec]
  refine ⟨fun s r d => ?ro, fun s r lo size d hbad => ?roBad, fun s off size d hhigh => ?high,
    fun s off d _ hlow hfour => ?low, fun s off size d _ hlow hbad => ?lowBad,
    fun s i size d hok => ?rxbuf, fun s i size d hbad => ?rxbufBad⟩
  case ro => exact s.regAccess_ok r s.complete
  case roBad => exact State.regAccess_bad hbad s r s.complete
  case high => exact ⟨execWrReserved_of_high hhigh size d s, rfl⟩
  case low => rw [execWrReserved_of_low hlow, if_pos ⟨rfl, hfour⟩]; rfl
  case lowBad => rw [execWrReserved_of_low hlow, if_neg hbad]; rfl
  case rxbuf => rw [execWrRxbuf_eq, if_pos hok]; rfl
  case rxbufBad => rw [execWrRxbuf_eq, if_neg hbad]; rfl

end Sys2Proof.Proofs

/-! SUPPORT. The bytes of a buffer access: little-endian order (20_memory.md R75), and an aligned read or write as the bytes
at its offsets (R132, R133, R292). -/

namespace Sys2Proof.Machine

open Sys2Proof.Safety

/-! ## Little-endian bytes and values -/

/-- Byte `k` of a datum moved down by `m` bytes. -/
theorem ushiftRight_byte (d : Word) (m k : Nat) :
    (d >>> (8 * m)).extractLsb' (8 * k) 8 = d.extractLsb' (8 * (m + k)) 8 := by
  ext i
  simp only [BitVec.getElem_extractLsb', BitVec.getLsbD_ushiftRight]
  congr 1
  omega

theorem leBytes_getD (d : Word) {n k : Nat} (hk : k < n) : (leBytes n d).getD k 0#8 = d.extractLsb' (8 * k) 8 := by
  induction n generalizing d k with
  | zero => omega
  | succ n ih =>
    rw [leBytes]
    cases k with
    | zero => rw [List.getD_cons_zero, Nat.mul_zero, BitVec.setWidth_eq_extractLsb' (by decide)]
    | succ k =>
      rw [List.getD_cons_succ, ih _ (by omega), Nat.add_comm k 1]
      exact ushiftRight_byte d 1 k

/-- Byte `k` of a little-endian value is the byte at offset `k`, and 0 past the last one. -/
theorem leValue_byte (p : List Byte) {k : Nat} (hk : k < 4) : (leValue p).extractLsb' (8 * k) 8 = p.getD k 0#8 := by
  induction p generalizing k with
  | nil => rw [leValue, BitVec.extractLsb'_zero, List.getD_nil]
  | cons v rest ih =>
    rw [leValue]
    cases k with
    | zero =>
      rw [List.getD_cons_zero]
      ext i hi
      simp [show i < 32 by omega, hi]
    | succ k =>
      rw [List.getD_cons_succ, ← ih (k := k) (by omega)]
      ext i hi
      have hhigh : v.getLsbD (8 * (k + 1) + i) = false := BitVec.getLsbD_of_ge _ _ (by omega)
      simp only [BitVec.getElem_extractLsb', BitVec.getLsbD_or, BitVec.getLsbD_shiftLeft, BitVec.getLsbD_setWidth, hhigh,
        show 8 * (k + 1) + i < 32 by omega, show ¬8 * (k + 1) + i < 8 by omega,
        show 8 * (k + 1) + i - 8 = 8 * k + i by omega, decide_true, decide_false, Bool.not_false, Bool.true_and,
        Bool.and_false, Bool.or_false]

/-- A word is known by its four bytes. -/
theorem word_ext_bytes {v w : Word} (h : ∀ k, k < 4 → v.extractLsb' (8 * k) 8 = w.extractLsb' (8 * k) 8) : v = w := by
  refine BitVec.eq_of_getLsbD_eq fun i hi => ?_
  have hbyte : (v.extractLsb' (8 * (i / 8)) 8).getLsbD (i % 8) = (w.extractLsb' (8 * (i / 8)) 8).getLsbD (i % 8) := by
    rw [h (i / 8) (by omega)]
  rwa [BitVec.getLsbD_extractLsb', BitVec.getLsbD_extractLsb', decide_eq_true (Nat.mod_lt i (by decide)), Bool.true_and,
    Bool.true_and, Nat.div_add_mod] at hbyte

/-- Byte `k` of a datum cut to a size. -/
theorem and_mask_byte (size : Size) (d : Word) {k : Nat} (hk : k < 4) :
    (d &&& size.mask).extractLsb' (8 * k) 8 = if k < size.bytes then d.extractLsb' (8 * k) 8 else 0#8 := by
  have hmask : size.mask.extractLsb' (8 * k) 8 = if k < size.bytes then BitVec.allOnes 8 else 0#8 := by
    cases size <;> revert k <;> decide
  rw [BitVec.extractLsb'_and, hmask]
  split
  · exact BitVec.and_allOnes
  · exact BitVec.and_zero

/-- The value of a datum's bytes is the datum, cut to their number. -/
theorem leValue_leBytes (size : Size) (d : Word) : leValue (leBytes size.bytes d) = d &&& size.mask := by
  refine word_ext_bytes fun k hk => ?_
  rw [leValue_byte _ hk, and_mask_byte size d hk]
  split
  next hlt => exact leBytes_getD d hlt
  next hge => exact List.getD_eq_default _ _ (by rw [leBytes_length]; omega)

/-! ## The accesses -/

theorem holdsAt_writeBytes (m : Memory) (a : Nat) (p : List Byte) : holdsAt (m.writeBytes a p) a p :=
  fun k hk => Memory.read_writeBytes_inside m a k p hk

/-- With an unwritten byte in it, the read of a run fails on one (R292). -/
theorem Memory.readBytes_unwritten {m : Memory} {a n k : Nat} (hk : k < n) (h : m.read (a + k) = none) :
    ∃ j, j < n ∧ m.read (a + j) = none ∧ m.readBytes a n = .error (a + j) := by
  cases hr : m.readBytes a n with
  | ok p =>
    obtain ⟨_, hread⟩ := Memory.readBytes_spec hr
    exact nomatch h.symm.trans (hread k hk)
  | error off =>
    obtain ⟨hnone, hlo, hhi⟩ := Memory.readBytes_error hr
    obtain ⟨j, rfl⟩ := Nat.exists_eq_add_of_le hlo
    exact ⟨j, by omega, hnone, rfl⟩

theorem execWrTxbuf_eq (i : Byte) (size : Size) (d : Word) (s : State) :
    execWrTxbuf i size d s =
      if i.toNat % size.bytes = 0 then
        State.complete { s with mem := s.mem.writeBytes (0x100 + i.toNat) (leBytes size.bytes d) }
      else s.busError (0x100#12 + i.setWidth 12) := by
  have herror : bufferOffset 1#4 i = 0x100#12 + i.setWidth 12 := bufferOffset_eq_add 1#4 i
  simp only [execWrTxbuf, bufferOk_iff, txbufOffset_toNat]
  rw [herror]

theorem State.readBuffer_misaligned {i : Byte} {size : Size} (h : i.toNat % size.bytes ≠ 0) (s : State)
    (page : BitVec 4) :
    s.readBuffer page i size =
      .next { s with resp := .error (BitVec.ofNat 12 (256 * page.toNat) + i.setWidth 12) } := by
  rw [State.readBuffer, if_neg (mt (bufferOk_iff i size).1 h), bufferOffset_eq_add]
  rfl

/-- An aligned read of bytes that are all there. -/
theorem State.readBuffer_of_holdsAt {s : State} {page : BitVec 4} {i : Byte} {size : Size} {p : List Byte}
    (h : i.toNat % size.bytes = 0) (hp : p.length = size.bytes) (hheld : holdsAt s.mem (256 * page.toNat + i.toNat) p) :
    s.readBuffer page i size = .next { s with resp := .data (leValue p) } := by
  have hread := Memory.readBytes_ok s.mem _ p hheld
  rw [State.readBuffer, if_pos ((bufferOk_iff i size).2 h), bufferOffset, Laws.page_toNat, ← hp, hread]
  rfl

/-- An aligned read with an unwritten byte in its range. -/
theorem State.readBuffer_unwritten {s : State} {page : BitVec 4} {i : Byte} {size : Size} {k : Nat}
    (h : i.toNat % size.bytes = 0) (hk : k < size.bytes) (hnone : s.mem.read (256 * page.toNat + i.toNat + k) = none) :
    ∃ j, j < size.bytes ∧ s.mem.read (256 * page.toNat + i.toNat + j) = none ∧
      s.readBuffer page i size = .fault (.unwrittenByte (256 * page.toNat + i.toNat + j)) := by
  obtain ⟨j, hj, hjnone, herr⟩ := Memory.readBytes_unwritten hk hnone
  refine ⟨j, hj, hjnone, ?_⟩
  rw [State.readBuffer, if_pos ((bufferOk_iff i size).2 h), bufferOffset, Laws.page_toNat, herr]

end Sys2Proof.Machine

namespace Sys2Proof.Proofs

open Sys2Proof.Machine Sys2Proof.Safety

/-- Settles O24, by what a run of writes does inside and outside its range. -/
theorem txbufWriteStoresLittleEndianBytes : Obligations.TxbufWriteStoresLittleEndianBytes := by
  unfold Obligations.TxbufWriteStoresLittleEndianBytes
  simp only [exec, execWrTxbuf_eq]
  refine ⟨fun s i size d hok => ?aligned, fun s i size d hbad => ?misaligned⟩
  case aligned =>
    rw [if_pos hok]
    refine ⟨_, rfl, rfl, fun k hk => ?_, fun a ha => ?_⟩
    · rw [← leBytes_getD d hk]
      exact holdsAt_writeBytes s.mem _ _ k (by rwa [leBytes_length])
    · exact Memory.read_writeBytes_outside s.mem _ a _ (by rwa [leBytes_length])
  case misaligned => rw [if_neg hbad]; rfl

/-- Settles O25: one argument for both buffers (`State.readBuffer`). -/
theorem bufferReadsAreLittleEndian : Obligations.BufferReadsAreLittleEndian := by
  unfold Obligations.BufferReadsAreLittleEndian
  refine ⟨fun s i size p hok hp => ?bytes, fun s i size hbad => ?misaligned, fun s i size k hok hk => ?unwritten⟩
  case bytes =>
    exact ⟨fun h => ⟨_, State.readBuffer_of_holdsAt (page := 1#4) hok hp h, fun _ => leValue_byte p⟩,
      fun h => ⟨_, State.readBuffer_of_holdsAt (page := 2#4) hok hp h, fun _ => leValue_byte p⟩⟩
  case misaligned => exact ⟨s.readBuffer_misaligned hbad 1#4, s.readBuffer_misaligned hbad 2#4⟩
  case unwritten =>
    exact ⟨State.readBuffer_unwritten (page := 1#4) hok hk, State.readBuffer_unwritten (page := 2#4) hok hk⟩

/-- Settles O26: the bytes read are those of the datum shifted down to their place (`leValue_leBytes`). -/
theorem txbufReadsSeeOverlappingWrites : Obligations.TxbufReadsSeeOverlappingWrites := by
  unfold Obligations.TxbufReadsSeeOverlappingWrites
  intro s t i j size d hwrite hi hij hsize hj
  obtain ⟨m, hm⟩ := Nat.exists_eq_add_of_le hij
  have hstored : t = { s with mem := s.mem.writeBytes (0x100 + i.toNat) (leBytes 4 d), resp := .done } := by
    have hdone : execWrTxbuf i .b4 d s = _ := (execWrTxbuf_eq i .b4 d s).trans (if_pos hi)
    rw [exec, hdone] at hwrite
    cases hwrite
    rfl
  have hheld : holdsAt t.mem (0x100 + j.toNat) (leBytes size.bytes (d >>> (8 * m))) := by
    intro k hk
    rw [leBytes_length] at hk
    have hlt : m + k < 4 := by omega
    have hplace : 0x100 + j.toNat + k = 0x100 + i.toNat + (m + k) := by omega
    rw [leBytes_getD _ hk, ushiftRight_byte, ← leBytes_getD d hlt, hplace, hstored]
    exact holdsAt_writeBytes s.mem _ (leBytes 4 d) (m + k) (by rwa [leBytes_length])
  refine ⟨_, State.readBuffer_of_holdsAt (page := 1#4) hj (leBytes_length _ _) hheld, ?_⟩
  rw [leValue_leBytes, hm, Nat.add_sub_cancel_left]

end Sys2Proof.Proofs

/-! SUPPORT. When an access ends in BusError (20_memory.md R72 to R74; 60_exceptions.md R260): its checks decide, and no
effect of an access answers an error. -/

namespace Sys2Proof.Machine

/-- An outcome that is no BusError. -/
def NoBusError (o : Host.Outcome State Fault Refusal) : Prop := ∀ t e, o = .next t → t.resp ≠ .error e

namespace NoBusError

theorem complete (s : State) : NoBusError s.complete := by
  rintro t e ⟨⟩
  exact BusResp.noConfusion

theorem answer (s : State) (v : Word) : NoBusError (s.answer v) := by
  rintro t e ⟨⟩
  exact BusResp.noConfusion

theorem fault (f : Fault) : NoBusError (.fault f) := by
  rintro t e ⟨⟩

end NoBusError

/-! ## No command answers BusError (R17, R150) -/

theorem execTxframe_noBusError (a : Byte) (n : Half) (s : State) : NoBusError (execTxframe a n s) := by
  unfold execTxframe
  split
  · exact .complete _
  · split
    · exact .complete _
    · split
      · exact .complete _
      · exact .fault _

theorem execRxrelease_noBusError (s : State) : NoBusError (execRxrelease s) := by
  unfold execRxrelease
  split <;> exact .complete _

theorem execResync_noBusError (s : State) : NoBusError (execResync s) := by
  unfold execResync
  split <;> exact .complete _

theorem execChkfeedbuf_noBusError (start : Byte) (n : Half) (s : State) : NoBusError (execChkfeedbuf start n s) := by
  unfold execChkfeedbuf
  split
  · exact .complete _
  · split
    · exact .complete _
    · exact .fault _

theorem perform_noBusError (w : Word) (s : State) : NoBusError (perform w s) := by
  rw [perform_eq_exec_decodeCmd]
  unfold decodeCmd
  dsimp only
  split
  case h_3 => exact execTxframe_noBusError _ _ s
  case h_5 => exact execRxrelease_noBusError s
  case h_6 => exact execResync_noBusError s
  case h_10 => exact execChkfeedbuf_noBusError _ _ s
  all_goals exact .complete _

/-! ## The checks decide -/

/-- The outcome of an access at `off`: BusError there and nothing else if `bad`, and no BusError if not. -/
def ErrsExactlyIf (bad : Prop) (off : Offset) (s : State) (o : Host.Outcome State Fault Refusal) : Prop :=
  (bad → o = .next { s with resp := .error off }) ∧ (¬bad → NoBusError o)

/-- A bad size or alignment for the part of the window that the offset lies in (R72, R73). -/
def BadAccess (off : Offset) (size : Size) : Prop :=
  (off.toNat < 0x100 ∧ ¬(size = .b4 ∧ off.toNat % 4 = 0)) ∨
    (0x100 ≤ off.toNat ∧ off.toNat < 0x300 ∧ off.toNat % size.bytes ≠ 0)

theorem badAccess_reg_iff (r : Reg) (lo : BitVec 2) (size : Size) :
    BadAccess (r.offset lo) size ↔ ¬(size = .b4 ∧ lo = 0#2) := by
  have hlt := r.offset_lt lo
  have hlo := lo_eq_zero_iff (r.offset lo)
  rw [Reg.offset_lo] at hlo
  rw [BadAccess, hlo]
  exact ⟨fun h => h.elim And.right fun h => absurd h.1 (Nat.not_le.2 hlt), fun h => .inl ⟨hlt, h⟩⟩

theorem badAccess_buffer_iff {page : BitVec 4} (hlo : 1 ≤ page.toNat) (hhi : page.toNat ≤ 2) (i : Byte) (size : Size) :
    BadAccess (page ++ i) size ↔ i.toNat % size.bytes ≠ 0 := by
  have hi := i.isLt
  rw [BadAccess, Laws.page_toNat, Size.add_mod_bytes]
  exact ⟨fun h => h.elim (fun h => absurd h.1 (by omega)) fun h => h.2.2, fun h => .inr ⟨by omega, by omega, h⟩⟩

theorem not_badAccess_of_high {off : Offset} (h : 0x300#12 ≤ off) (size : Size) : ¬BadAccess off size := by
  rw [BitVec.le_def, BitVec.toNat_ofNat] at h
  rintro (⟨hlt, _⟩ | ⟨_, hlt, _⟩) <;> omega

theorem ErrsExactlyIf.regAccess {s : State} {r : Reg} {lo : BitVec 2} {size : Size}
    {effect : Host.Outcome State Fault Refusal} (h : NoBusError effect) :
    ErrsExactlyIf (BadAccess (r.offset lo) size) (r.offset lo) s (s.regAccess r lo size effect) := by
  rw [badAccess_reg_iff]
  refine ⟨fun hbad => State.regAccess_bad hbad s r effect, fun hok => ?_⟩
  rcases s.regAccess_cases r lo size effect with ⟨_, e⟩ | ⟨hbad, _⟩
  · rw [e]; exact h
  · exact absurd hbad hok

theorem ErrsExactlyIf.readBuffer {page : BitVec 4} (hlo : 1 ≤ page.toNat) (hhi : page.toNat ≤ 2) (i : Byte)
    (size : Size) (s : State) :
    ErrsExactlyIf (BadAccess (page ++ i) size) (page ++ i) s (s.readBuffer page i size) := by
  rw [badAccess_buffer_iff hlo hhi, ne_eq, ← bufferOk_iff]
  rcases s.readBuffer_cases page i size with ⟨hbad, e⟩ | ⟨hok, bs, _, e⟩ | ⟨hok, a, _, e⟩
  · rw [e]; exact ⟨fun _ => rfl, fun hok => absurd (Bool.eq_false_iff.1 hbad) hok⟩
  · rw [e]; exact ⟨fun hbad => absurd hok hbad, fun _ => .answer s _⟩
  · rw [e]; exact ⟨fun hbad => absurd hok hbad, fun _ => .fault _⟩

/-- A write to a buffer completes or is BusError, as its alignment says. -/
theorem ErrsExactlyIf.writeBuffer {page : BitVec 4} (hlo : 1 ≤ page.toNat) (hhi : page.toNat ≤ 2) (i : Byte)
    (size : Size) (s t : State) :
    ErrsExactlyIf (BadAccess (page ++ i) size) (page ++ i) s
      (if bufferOk i size then t.complete else s.busError (bufferOffset page i)) := by
  rw [badAccess_buffer_iff hlo hhi, ne_eq, ← bufferOk_iff]
  exact ⟨fun hbad => if_neg hbad, fun hok => by rw [if_pos (not_not.1 hok)]; exact .complete t⟩

/-! ## The accesses of the register region -/

theorem execRdRxchar_errs (lo : BitVec 2) (size : Size) (s : State) :
    ErrsExactlyIf (BadAccess (Reg.rxchar.offset lo) size) (Reg.rxchar.offset lo) s (execRdRxchar lo size s) := by
  refine .regAccess ?_
  split
  · exact .answer _ _
  · split <;> exact .answer _ _

theorem execRdOob_errs (lo : BitVec 2) (size : Size) (s : State) :
    ErrsExactlyIf (BadAccess (Reg.oob.offset lo) size) (Reg.oob.offset lo) s (execRdOob lo size s) := by
  refine .regAccess ?_
  split <;> exact .answer _ _

theorem exec_decodeRegRead_errs (r : Reg) (lo : BitVec 2) (size : Size) (s : State) :
    ErrsExactlyIf (BadAccess (r.offset lo) size) (r.offset lo) s (exec (decodeRegRead r lo size) s) := by
  cases r with
  | rxchar => exact execRdRxchar_errs lo size s
  | oob => exact execRdOob_errs lo size s
  | _ => exact .regAccess (.answer s _)

/-- A write to a reserved slot is checked at that slot. -/
theorem execWrReserved_offset (k : Fin 42) (lo : BitVec 2) (size : Size) (d : Word) (s : State) :
    execWrReserved ((Reg.reserved k).offset lo) size d s = s.regAccess (.reserved k) lo size s.complete := by
  have hlow : ¬0x300#12 ≤ (Reg.reserved k).offset lo := by
    have := (Reg.reserved k).offset_lt lo
    rw [BitVec.le_def, BitVec.toNat_ofNat]
    omega
  simp only [execWrReserved, State.regAccess, Reg.offset_lo, hlow, decide_false, Bool.false_or]

theorem exec_decodeRegWrite_errs (r : Reg) (lo : BitVec 2) (size : Size) (d : Word) (s : State) :
    ErrsExactlyIf (BadAccess (r.offset lo) size) (r.offset lo) s
      (exec (decodeRegWrite (r.offset lo) r lo size d) s) := by
  cases r with
  | cmd => exact .regAccess (perform_noBusError d s)
  | reserved k =>
    rw [decodeRegWrite, exec, execWrReserved_offset]
    exact .regAccess (.complete s)
  | _ => exact .regAccess (.complete _)

/-! ## Every access -/

theorem exec_decodeAccess_errs (dir : Dir) (off : Offset) (size : Size) (d : Word) (s : State) :
    ErrsExactlyIf (BadAccess off size) off s (exec (decodeAccess dir off size d) s) := by
  cases off.region with
  | reg r lo =>
    cases dir with
    | read => rw [decodeAccess_read_reg]; exact exec_decodeRegRead_errs r lo size s
    | write => rw [decodeAccess_write_reg]; exact exec_decodeRegWrite_errs r lo size _ s
  | txbuf i =>
    rw [decodeAccess_txbuf]
    cases dir with
    | read => exact .readBuffer (by decide) (by decide) i size s
    | write => exact .writeBuffer (by decide) (by decide) i size s _
  | rxbuf i =>
    rw [decodeAccess_rxbuf]
    cases dir with
    | read => exact .readBuffer (by decide) (by decide) i size s
    | write => exact .writeBuffer (by decide) (by decide) i size s _
  | high off h =>
    rw [decodeAccess_high h]
    refine ⟨fun hbad => absurd hbad (not_badAccess_of_high h size), fun _ => ?_⟩
    cases dir with
    | read => exact .answer s _
    | write =>
      rw [if_pos rfl, exec, execWrReserved_of_high h]
      exact .complete s

end Sys2Proof.Machine

namespace Sys2Proof.Proofs

open Sys2Proof.Machine

/-- Settles O27, part by part of the window (`exec_decodeAccess_errs`). -/
theorem busErrorExactlyOnBadSizeOrAlignment : Obligations.BusErrorExactlyOnBadSizeOrAlignment := by
  unfold Obligations.BusErrorExactlyOnBadSizeOrAlignment
  exact fun dir off size d s => exec_decodeAccess_errs dir off size d s

end Sys2Proof.Proofs

/-! SUPPORT. What no agent but the host writes (R83): the host's registers as one equation on the state with the agents'
fields blanked, and for the memory and the sticky bits a relation that each operation of an agent keeps. -/

namespace Sys2Proof.Machine

/-- The state with the fields blanked that a move of LINE, TXU, FRX or RXT, or an asserted reset input, may write. -/
def State.outsideAgents (s : State) : State :=
  { s.outsideDecoder with rxfifo := [], gapPend := false, txsh := none, txfr := false, lineOut := [], resetIn := false }

theorem State.outsideAgents_of_outsideDecoder {s t : State} (h : t.outsideDecoder = s.outsideDecoder) :
    t.outsideAgents = s.outsideAgents := by
  rw [State.outsideAgents, State.outsideAgents, h]

/-- TXBUF reads as before (its offsets lie below 0x200), and no event bit is cleared. -/
def OnlyAdds (s t : State) : Prop :=
  (∀ a, a < 0x200 → t.mem.read a = s.mem.read a) ∧ s.sticky &&& t.sticky = s.sticky

namespace OnlyAdds

variable {s t u : State}

theorem of_eq (hmem : t.mem = s.mem) (hsticky : t.sticky = s.sticky) : OnlyAdds s t :=
  ⟨fun a _ => by rw [hmem], by rw [hsticky, BitVec.and_self]⟩

theorem refl (s : State) : OnlyAdds s s := .of_eq rfl rfl

theorem trans (h1 : OnlyAdds s t) (h2 : OnlyAdds t u) : OnlyAdds s u := by
  obtain ⟨hmem1, hsticky1⟩ := h1
  obtain ⟨hmem2, hsticky2⟩ := h2
  refine ⟨fun a ha => (hmem2 a ha).trans (hmem1 a ha), ?_⟩
  calc s.sticky &&& u.sticky = s.sticky &&& (t.sticky &&& u.sticky) := by rw [← BitVec.and_assoc, hsticky1]
    _ = s.sticky := by rw [hsticky2, hsticky1]

theorem of_or {k : BitVec 14} (hmem : t.mem = s.mem) (hsticky : t.sticky = s.sticky ||| k) : OnlyAdds s t := by
  refine ⟨fun a _ => by rw [hmem], ?_⟩
  rw [hsticky]
  ext i
  rw [BitVec.getElem_and, BitVec.getElem_or]
  cases s.sticky[i] <;> rfl

theorem signal (s : State) (x : Event) : OnlyAdds s (s.signal x) := .of_or rfl rfl

end OnlyAdds

/-! ## The decoder -/

theorem State.discardByte_onlyAdds (s : State) (v : Byte) (x : Bool) : OnlyAdds s (s.discardByte v x) := by
  rcases (s.discard (1 + x.toNat)).oob_cases v x with e | ⟨_, e⟩ | ⟨_, _, e⟩
  · rw [State.discardByte, e]; exact .of_eq rfl rfl
  · rw [State.discardByte, e]; exact .of_or rfl rfl
  · rw [State.discardByte, e]; exact .of_eq rfl rfl

theorem State.fail_onlyAdds (s : State) (k : FailCause) (pb : List Entry) : OnlyAdds s (s.fail k pb) := by
  have reported : OnlyAdds s (Safety.report s k) := by
    unfold Safety.report
    split
    · obtain ⟨_, _, e, _⟩ := s.checksumError_cases
      rw [e]
      exact .of_or rfl rfl
    · exact .of_or rfl rfl
  rw [Safety.fail_eq]
  refine reported.trans ?_
  split <;> exact .of_eq rfl rfl

/-- The payload goes to RXBUF, above TXBUF (R234). -/
theorem State.accept_onlyAdds (s : State) : OnlyAdds s s.accept :=
  have hevent : OnlyAdds s (s.signal .rxfrm) := .signal s _
  ⟨fun a ha => Memory.read_writeBytes_outside s.mem Config.rxbufBase a s.cand.pay (.inl ha), hevent.2⟩

theorem State.verify_onlyAdds (s : State) : OnlyAdds s s.verify := by
  rcases s.verify_cases with e | e
  · rw [e]; exact s.accept_onlyAdds
  · rw [e]; exact s.fail_onlyAdds _ _

theorem State.lenByte_onlyAdds (s : State) (v : Byte) : OnlyAdds s (s.lenByte v) := by
  unfold State.lenByte
  dsimp only
  split
  · split
    · exact State.fail_onlyAdds { s with cand := { s.cand with len := s.cand.len ++ [v] } } .length []
    · exact .of_eq rfl rfl
  · exact .of_eq rfl rfl

theorem State.payByte_onlyAdds (s : State) (v : Byte) : OnlyAdds s (s.payByte v) := by
  unfold State.payByte
  dsimp only
  split
  · split
    · exact s.fail_onlyAdds _ _
    · exact .of_eq rfl rfl
  · split <;> exact .of_eq rfl rfl

theorem State.chkByte_onlyAdds (s : State) (v : Byte) : OnlyAdds s (s.chkByte v) := by
  unfold State.chkByte
  dsimp only
  split
  · exact State.verify_onlyAdds { s with cand := { s.cand with chk := s.cand.chk ++ [v] } }
  · exact .of_eq rfl rfl

theorem State.dataByte_onlyAdds (s : State) (v : Byte) : OnlyAdds s (s.dataByte v) := by
  unfold State.dataByte
  split
  case h_2 => exact s.lenByte_onlyAdds v
  case h_3 => exact s.payByte_onlyAdds v
  case h_4 => exact s.fail_onlyAdds _ _
  case h_5 => exact s.chkByte_onlyAdds v
  all_goals exact .of_eq rfl rfl

theorem State.plainStep_onlyAdds (s : State) (e : Entry) : OnlyAdds s (s.plainStep e) := by
  rcases s.plainStep_cases e with ⟨_, h⟩ | ⟨_, h⟩ | ⟨_, h⟩ | ⟨_, h⟩
  · rw [h, State.plainHunt]
    dsimp only
    split
    · exact .of_eq rfl rfl
    · split
      · split <;> exact .of_eq rfl rfl
      · exact s.discardByte_onlyAdds _ _
  · rw [h, State.plainSync]
    split
    · exact s.discardByte_onlyAdds s.sync0 false
    · exact .of_eq rfl rfl
  · rw [h, State.plainCand]
    split
    · exact s.fail_onlyAdds _ _
    · split
      · exact s.fail_onlyAdds _ _
      · exact State.dataByte_onlyAdds { s with cand := { s.cand with ents := s.cand.ents ++ [e] } } e.b
  · rw [h]; exact .refl s

theorem State.outside_onlyAdds (s : State) (t : Token) : OnlyAdds s (s.outside t) := by
  cases t with
  | start => exact .of_eq rfl rfl
  | data v escd => exact s.discardByte_onlyAdds v escd
  | endMark => exact s.discardByte_onlyAdds s.etxb true
  | badEsc v => exact s.discardByte_onlyAdds v true

theorem State.inCandidate_onlyAdds (s : State) (t : Token) : OnlyAdds s (s.inCandidate t) := by
  cases t with
  | start => exact s.fail_onlyAdds .restart []
  | data v escd => exact s.dataByte_onlyAdds v
  | badEsc v => exact s.fail_onlyAdds .escape []
  | endMark =>
    simp only [State.inCandidate]
    split
    · exact .of_eq rfl rfl
    · split
      · split
        · exact s.fail_onlyAdds _ _
        · exact .of_eq rfl rfl
      · exact s.fail_onlyAdds _ _

theorem State.afterGap_onlyAdds (s : State) (e : Entry) : OnlyAdds s (s.afterGap e) := by
  unfold State.afterGap State.stuffedGap
  split
  · split
    · exact s.fail_onlyAdds _ _
    · split <;> exact .of_eq rfl rfl
  · exact .refl s

theorem State.stuffedErr_onlyAdds (s : State) : OnlyAdds s s.stuffedErr := by
  unfold State.stuffedErr
  dsimp only
  split
  · exact s.fail_onlyAdds .char []
  · split <;> exact .of_eq rfl rfl

theorem State.stuffedByte_onlyAdds (s : State) (b : Byte) : OnlyAdds s (s.stuffedByte b) := by
  unfold State.stuffedByte
  split
  · exact .of_eq rfl rfl
  · dsimp only
    split
    · exact State.inCandidate_onlyAdds { s with escp := false } _
    · exact State.outside_onlyAdds { s with escp := false } _

theorem State.stuffedStep_onlyAdds (s : State) (e : Entry) : OnlyAdds s (s.stuffedStep e) := by
  rw [State.stuffedStep_eq]
  refine (s.afterGap_onlyAdds e).trans ?_
  split
  · exact State.stuffedErr_onlyAdds _
  · exact State.stuffedByte_onlyAdds _ _

theorem State.handleEntry_onlyAdds (s : State) (e : Entry) : OnlyAdds s (s.handleEntry e) := by
  unfold State.handleEntry
  split
  · exact s.stuffedStep_onlyAdds e
  · exact s.plainStep_onlyAdds e

/-! ## The moves: both facts about each -/

/-- A move of an internal agent leaves the host's registers alone, keeps TXBUF and clears no event. -/
def AgentKeeps (s t : State) : Prop := t.outsideAgents = s.outsideAgents ∧ OnlyAdds s t

theorem AgentKeeps.refl (s : State) : AgentKeeps s s := ⟨rfl, .refl s⟩

theorem AgentKeeps.trans {s t u : State} (h1 : AgentKeeps s t) (h2 : AgentKeeps t u) : AgentKeeps s u :=
  ⟨h2.1.trans h1.1, h1.2.trans h2.2⟩

theorem State.handleEntry_keeps (s : State) (e : Entry) : AgentKeeps s (s.handleEntry e) :=
  ⟨State.outsideAgents_of_outsideDecoder (s.handleEntry_outsideDecoder e), s.handleEntry_onlyAdds e⟩

theorem State.frxStep_keeps (s : State) : AgentKeeps s s.frxStep := by
  cases hen : s.frxEnabled with
  | false =>
    rw [State.frxStep, hen, if_neg Bool.false_ne_true]
    exact .refl s
  | true =>
    rcases State.frxStep_of_enabled hen with ⟨e, rest, _, h⟩ | ⟨e, rest, _, _, h⟩
    · have htaken : AgentKeeps s { s with replay := rest } := ⟨rfl, .of_eq rfl rfl⟩
      rw [h]
      exact htaken.trans (State.handleEntry_keeps _ e)
    · have htaken : AgentKeeps s { s with rxfifo := rest } := ⟨rfl, .of_eq rfl rfl⟩
      rw [h]
      exact htaken.trans (State.handleEntry_keeps _ e)

theorem State.rxtStep_keeps (s : State) : AgentKeeps s s.rxtStep := by
  refine ⟨State.outsideAgents_of_outsideDecoder s.rxtStep_outsideDecoder, ?_⟩
  unfold State.rxtStep
  split
  · split
    · exact s.discardByte_onlyAdds s.sync0 false
    · exact s.fail_onlyAdds _ _
  · exact .refl s

theorem State.arrive_keeps (s : State) (e : Entry) (src : CharSource) : AgentKeeps s (s.arrive e src) := by
  rcases s.arrive_cases e src with h | ⟨_, _, h⟩
  · rw [h]; exact .refl s
  · rw [h]
    rcases s.takeChar_cases e with ⟨_, h⟩ | ⟨_, k, h⟩
    · rw [h]; exact ⟨rfl, .of_or rfl rfl⟩
    · rw [h]; exact ⟨rfl, .of_or rfl rfl⟩

theorem State.lineStep_keeps (s : State) (e : Entry) : AgentKeeps s (s.lineStep e) := by
  unfold State.lineStep
  split
  · exact s.arrive_keeps e .ext
  · exact .refl s

theorem State.loadStep_keeps (s : State) : AgentKeeps s s.loadStep := by
  rcases s.loadStep_cases with h | ⟨_, _, _, b, rest, _, h⟩
  · rw [h]; exact .refl s
  · rw [h]; exact ⟨rfl, .of_eq rfl rfl⟩

theorem State.endFrame_keeps (s : State) : AgentKeeps s s.endFrame := by
  rcases s.endFrame_cases with ⟨_, _, h⟩ | ⟨_, h⟩
  · rw [h]; exact ⟨rfl, .of_or rfl rfl⟩
  · rw [h]; exact .refl s

theorem State.emitStep_keeps (s : State) : AgentKeeps s s.emitStep := by
  rcases s.emitStep_cases with h | ⟨_, b, _, ⟨_, h⟩ | ⟨_, h⟩⟩
  · rw [h]; exact .refl s
  · have hsent : AgentKeeps s { s with txsh := none } := ⟨rfl, .of_eq rfl rfl⟩
    rw [h]
    exact (hsent.trans (State.arrive_keeps _ _ .loopback)).trans (State.endFrame_keeps _)
  · have hsent : AgentKeeps s { s with txsh := none, lineOut := s.lineOut ++ [b] } := ⟨rfl, .of_eq rfl rfl⟩
    rw [h]
    exact hsent.trans (State.endFrame_keeps _)

theorem agentMove_keeps {m : Move} (hm : m ≠ .releaseReset) (s : State) : AgentKeeps s (agentMove m s) := by
  have unlessReset {t : State} (ht : AgentKeeps s t) : AgentKeeps s (if s.resetIn then s else t) := by
    split
    · exact .refl s
    · exact ht
  cases m with
  | host w => exact .refl s
  | line e => exact unlessReset (s.lineStep_keeps e)
  | load => exact unlessReset s.loadStep_keeps
  | emit => exact unlessReset s.emitStep_keeps
  | frx => exact unlessReset s.frxStep_keeps
  | rxt => exact unlessReset s.rxtStep_keeps
  | assertReset => exact ⟨rfl, .of_eq rfl rfl⟩
  | releaseReset => exact absurd rfl hm

end Sys2Proof.Machine

namespace Sys2Proof.Proofs

open Sys2Proof.Machine

/-- Settles O31, move by move (`agentMove_keeps`). -/
theorem internalAgentsKeepHostRegisters : Obligations.InternalAgentsKeepHostRegisters := by
  unfold Obligations.InternalAgentsKeepHostRegisters
  intro m s hm
  obtain ⟨hregisters, htxbuf, hevents⟩ := agentMove_keeps hm s
  have kept {α : Type} (field : State → α) :
      field (agentMove m s).outsideAgents = field s.outsideAgents := congrArg field hregisters
  exact ⟨kept State.ctrl, kept State.ien, kept State.line, kept State.prof0, kept State.prof1, kept State.prof2,
    kept State.crc0, kept State.crc1, kept State.rxto, kept State.acc, kept State.resp, htxbuf, hevents⟩

end Sys2Proof.Proofs

/-! SUPPORT. The instructions the decoder gives back: a command word by its three fields (30_encoding.md R90 to R92), a bus
access by the part of the window its instruction names (R71, R94). -/

namespace Sys2Proof

/-! ## Command words -/

@[simp] theorem cmd_arg8 (opc arg8 : Byte) (arg16 : Half) : (arg16 ++ arg8 ++ opc : Word).extractLsb' 8 8 = arg8 := by
  rw [BitVec.extractLsb'_append_eq_of_le (by decide), BitVec.extractLsb'_append_eq_of_add_le (by decide),
    BitVec.extractLsb'_eq_self]

@[simp] theorem cmd_arg16 (opc arg8 : Byte) (arg16 : Half) : (arg16 ++ arg8 ++ opc : Word).extractLsb' 16 16 = arg16 := by
  rw [BitVec.extractLsb'_append_eq_of_le (by decide), BitVec.extractLsb'_append_eq_of_le (by decide),
    BitVec.extractLsb'_eq_self]

/-- The opcode map of R91 on the three fields of a command word. -/
def opcodeRow (opc arg8 : Byte) (arg16 : Half) : Instr :=
  match opc.toNat with
  | 0x00 => .nop
  | 0x01 => .srst
  | 0x02 => .txframe arg8 arg16
  | 0x03 => .txabort
  | 0x04 => .rxrelease
  | 0x05 => .resync
  | 0x06 => .rxflush
  | 0x07 => .chkinit
  | 0x08 => .chkfeed arg8
  | 0x09 => .chkfeedbuf arg8 arg16
  | _ => .undefined opc

/-- A command word is decoded by its fields. -/
theorem decode_cmdWord (opc arg8 : Byte) (arg16 : Half) :
    decode (cmdWord opc arg8 arg16) = .ok (opcodeRow opc arg8 arg16) := by
  simp only [cmdWord, decode, decodeCmd, Laws.cmd_opc, cmd_arg8, cmd_arg16]
  rfl

/-- From 0x0A on no opcode is defined. -/
theorem opcodeRow_undefined {opc : Byte} (h : 0x0A#8 ≤ opc) (arg8 : Byte) (arg16 : Half) :
    opcodeRow opc arg8 arg16 = .undefined opc := by
  have hopc : 10 ≤ opc.toNat := by simpa [BitVec.le_def] using h
  unfold opcodeRow
  split
  case h_11 => rfl
  all_goals omega

/-! ## Bus accesses -/

theorem Size.and_mask_of_fits {size : Size} {d : Word} (h : size.fits d = true) : d &&& size.mask = d := by
  rwa [Size.fits, beq_iff_eq] at h

theorem decode_regRead (r : Reg) (lo : BitVec 2) (size : Size) :
    decode (regRead r lo size) = .ok (decodeRegRead r lo size) := by
  rw [regRead, decode_bus, decodeAccess_read_reg]

theorem decode_regWrite (r : Reg) (lo : BitVec 2) {size : Size} {d : Word} (h : size.fits d = true) :
    decode (regWrite r lo size d) = .ok (decodeRegWrite (r.offset lo) r lo size d) := by
  rw [regWrite, decode_bus, decodeAccess_write_reg, Size.and_mask_of_fits h]

theorem decodeRegRead_of_plainRead {r : Reg} (h : r.plainRead = true) (lo : BitVec 2) (size : Size) :
    decodeRegRead r lo size = .rdReg r lo size := by
  cases r with
  | rxchar => exact absurd h (by decide)
  | oob => exact absurd h (by decide)
  | _ => rfl

theorem decodeRegWrite_of_readOnly {r : Reg} (h : r.readOnly = true) (off : Offset) (lo : BitVec 2) (size : Size) (d : Word) :
    decodeRegWrite off r lo size d = .wrRo r lo size d := by
  cases r with
  | id | rxchar | rxinfo | oob | fifostat => rfl
  | _ => exact nomatch h

/-- From 0x058 on every slot of the register region is a reserved one (R71). -/
theorem Reg.reserved_of_offset {r : Reg} {lo : BitVec 2} (h : 0x058 ≤ (r.offset lo).toNat) : ∃ k, r = .reserved k := by
  have hlo := lo.isLt
  rw [Laws.reg_offset_toNat] at h
  cases r with
  | reserved k => exact ⟨k, rfl⟩
  | _ => simp only [Reg.index] at h; omega

theorem Offset.reserved_iff (off : Offset) :
    (Offset.reservedLow off || Offset.reservedHigh off) = true ↔
      0x058 ≤ off.toNat ∧ off.toNat < 0x100 ∨ 0x300 ≤ off.toNat := by
  simp [Offset.reservedLow, Offset.reservedHigh, BitVec.le_def, BitVec.lt_def]

/-- A write anywhere in a reserved part of the window (R76). -/
theorem decodeAccess_write_reserved {off : Offset}
    (h : (Offset.reservedLow off || Offset.reservedHigh off) = true) (size : Size) (d : Word) :
    decodeAccess .write off size d = .wrReserved off size (d &&& size.mask) := by
  have hoff := off.reserved_iff.1 h
  cases off.region with
  | reg r lo =>
    have hlt := r.offset_lt lo
    obtain ⟨k, rfl⟩ := Reg.reserved_of_offset (r := r) (lo := lo) (by omega)
    exact decodeAccess_write_reg (.reserved k) lo size d
  | txbuf i =>
    rw [Laws.page_toNat, BitVec.toNat_ofNat] at hoff
    omega
  | rxbuf i =>
    rw [Laws.page_toNat, BitVec.toNat_ofNat] at hoff
    omega
  | high off hhigh => exact decodeAccess_high hhigh .write size d

end Sys2Proof

namespace Sys2Proof.Proofs

/-- Settles O5, each defined opcode by its row, the others by `opcodeRow_undefined`. -/
theorem commandWordsFollowTheOpcodeMap : Obligations.CommandWordsFollowTheOpcodeMap := by
  unfold Obligations.CommandWordsFollowTheOpcodeMap
  intro a n
  have row (opc : Byte) : decode (.cmd (n ++ a ++ opc)) = .ok (opcodeRow opc a n) := decode_cmdWord opc a n
  exact ⟨row 0x00#8, row 0x01#8, row 0x02#8, row 0x03#8, row 0x04#8, row 0x05#8, row 0x06#8, row 0x07#8, row 0x08#8,
    row 0x09#8, fun opc h => (row opc).trans (congrArg _ (opcodeRow_undefined h a n))⟩

/-- Settles O3, by the row of each instruction: a command by its opcode, an access by the part of the window it is in. -/
theorem decodeOfEncodeIsTheInstruction : Obligations.DecodeOfEncodeIsTheInstruction := by
  unfold Obligations.DecodeOfEncodeIsTheInstruction
  intro i hwf
  cases i with
  | nop => exact decode_cmdWord 0x00#8 0#8 0#16
  | srst => exact decode_cmdWord 0x01#8 0#8 0#16
  | txframe a n => exact decode_cmdWord 0x02#8 a n
  | txabort => exact decode_cmdWord 0x03#8 0#8 0#16
  | rxrelease => exact decode_cmdWord 0x04#8 0#8 0#16
  | resync => exact decode_cmdWord 0x05#8 0#8 0#16
  | rxflush => exact decode_cmdWord 0x06#8 0#8 0#16
  | chkinit => exact decode_cmdWord 0x07#8 0#8 0#16
  | chkfeed d => exact decode_cmdWord 0x08#8 d 0#16
  | chkfeedbuf a n => exact decode_cmdWord 0x09#8 a n
  | undefined opc =>
    have hopc : 0x0A#8 ≤ opc := of_decide_eq_true hwf
    rw [encode, decode_cmdWord, opcodeRow_undefined hopc]
  | rdReg r lo size => rw [encode, decode_regRead, decodeRegRead_of_plainRead hwf]
  | rdRxchar lo size => exact decode_regRead .rxchar lo size
  | rdOob lo size => exact decode_regRead .oob lo size
  | wrCtrl lo size d => exact decode_regWrite .ctrl lo hwf
  | wrLine lo size d => exact decode_regWrite .line lo hwf
  | wrProf0 lo size d => exact decode_regWrite .prof0 lo hwf
  | wrProf1 lo size d => exact decode_regWrite .prof1 lo hwf
  | wrProf2 lo size d => exact decode_regWrite .prof2 lo hwf
  | wrCrc0 lo size d => exact decode_regWrite .crc0 lo hwf
  | wrCrc1 lo size d => exact decode_regWrite .crc1 lo hwf
  | wrCmd lo size d => exact decode_regWrite .cmd lo hwf
  | wrStatus lo size d => exact decode_regWrite .status lo hwf
  | wrIen lo size d => exact decode_regWrite .ien lo hwf
  | wrTxchar lo size d => exact decode_regWrite .txchar lo hwf
  | wrChkacc lo size d => exact decode_regWrite .chkacc lo hwf
  | wrCntok lo size d => exact decode_regWrite .cntok lo hwf
  | wrCntchk lo size d => exact decode_regWrite .cntchk lo hwf
  | wrCntfrm lo size d => exact decode_regWrite .cntfrm lo hwf
  | wrCntdisc lo size d => exact decode_regWrite .cntdisc lo hwf
  | wrRxto lo size d => exact decode_regWrite .rxto lo hwf
  | wrRo r lo size d =>
    obtain ⟨hro, hfits⟩ := Bool.and_eq_true_iff.1 hwf
    rw [encode, decode_regWrite r lo hfits, decodeRegWrite_of_readOnly hro]
  | wrReserved off size d =>
    obtain ⟨hoff, hfits⟩ := Bool.and_eq_true_iff.1 hwf
    rw [encode, decode_bus, decodeAccess_write_reserved hoff, Size.and_mask_of_fits hfits]
  | rdReservedHigh off size => rw [encode, decode_bus, decodeAccess_high (of_decide_eq_true hwf)]; rfl
  | rdTxbuf i size => rw [encode, decode_bus, decodeAccess_txbuf]; rfl
  | wrTxbuf i size d => rw [encode, decode_bus, decodeAccess_txbuf, if_pos rfl, Size.and_mask_of_fits hwf]
  | rdRxbuf i size => rw [encode, decode_bus, decodeAccess_rxbuf]; rfl
  | wrRxbuf i size d => rw [encode, decode_bus, decodeAccess_rxbuf, if_pos rfl, Size.and_mask_of_fits hwf]

end Sys2Proof.Proofs

/-! SUPPORT. The tokens of a stuffed wire stream as the token table writes them (30_encoding.md R114). -/

namespace Sys2Proof.Machine

/-- The rows for ESCP = 0. -/
theorem State.token_unescaped {s : State} (h : s.escp = false) (b : Byte) :
    s.token b =
      if b = s.esc then none
      else if b = s.sync0 ∧ s.nsync = 1 then some .start
      else some (.data b false) := by
  simp [State.token, h, s.nsync_eq_one_iff, and_comm]

/-- The rows for ESCP = 1. -/
theorem State.token_escaped {s : State} (h : s.escp = true) (b : Byte) :
    s.token b =
      if b = s.esc then some (.data b true)
      else if b = s.sync0 ∧ s.nsync = 1 then some (.data b true)
      else if b = s.sync1 ∧ s.nsync = 2 then some .start
      else if b = s.etxb ∧ s.endmk = true then some .endMark
      else some (.badEsc b) := by
  simp [State.token, h, s.nsync_eq_one_iff, s.nsync_eq_two_iff, and_comm]

/-- In a stuffed profile SYNC0 alone is not ESC (L7). -/
theorem State.sync0_ne_esc {s : State} (hlegal : s.legal = true) (hs : s.stuffed = true) (hn : s.nsync = 1) :
    s.sync0 ≠ s.esc := by
  obtain ⟨_, _, _, _, _, _, hone, _⟩ := s.legal_iff.1 hlegal
  exact hone ⟨hs, hn⟩

/-- In a stuffed profile SYNC1 is not ESC (L6). -/
theorem State.sync1_ne_esc {s : State} (hlegal : s.legal = true) (hs : s.stuffed = true) (hn : s.nsync = 2) :
    s.sync1 ≠ s.esc := by
  obtain ⟨_, _, _, _, _, htwo, _, _⟩ := s.legal_iff.1 hlegal
  exact (htwo ⟨hs, hn⟩).2

/-- The end marker's byte is neither ESC nor the last sync byte (L8). -/
theorem State.etxb_ne {s : State} (hlegal : s.legal = true) (he : s.endmk = true) :
    s.etxb ≠ s.esc ∧ (s.nsync = 1 → s.etxb ≠ s.sync0) ∧ (s.nsync = 2 → s.etxb ≠ s.sync1) := by
  obtain ⟨_, _, _, _, _, _, _, hend⟩ := s.legal_iff.1 hlegal
  obtain ⟨hesc, hlast⟩ := hend he
  rw [State.lastSync] at hlast
  refine ⟨hesc, fun hn => ?_, fun hn => ?_⟩
  · rwa [s.nsync_eq_one_iff.1 hn] at hlast
  · rwa [s.nsync_eq_two_iff.1 hn] at hlast

end Sys2Proof.Machine

namespace Sys2Proof.Proofs

open Sys2Proof.Machine

/-- Settles O49: LEGAL keeps ESC, the sync bytes and the end marker's byte apart, so no row hides a later one. -/
theorem tokensFollowTheTable : Obligations.TokensFollowTheTable := by
  unfold Obligations.TokensFollowTheTable
  intro s b hlegal hs
  refine ⟨?esc, ?start1, ?data, ?escEsc, ?escSync0, ?start2, ?endMark, ?badEsc⟩
  case esc =>
    intro h hb
    rw [State.token_unescaped h, if_pos hb]
  case start1 =>
    intro h hb hn
    have hne : b ≠ s.esc := hb ▸ State.sync0_ne_esc hlegal hs hn
    rw [State.token_unescaped h, if_neg hne, if_pos ⟨hb, hn⟩]
  case data =>
    intro h hne hsync
    rw [State.token_unescaped h, if_neg hne, if_neg hsync]
  case escEsc =>
    intro h hb
    rw [State.token_escaped h, if_pos hb]
  case escSync0 =>
    intro h hb hn
    rw [State.token_escaped h, if_pos (⟨hb, hn⟩ : b = s.sync0 ∧ s.nsync = 1), ite_self]
  case start2 =>
    intro h hb hn
    have hne : b ≠ s.esc := hb ▸ State.sync1_ne_esc hlegal hs hn
    have hsync : ¬(b = s.sync0 ∧ s.nsync = 1) := fun hc => by omega
    rw [State.token_escaped h, if_neg hne, if_neg hsync, if_pos ⟨hb, hn⟩]
  case endMark =>
    intro h hb he
    obtain ⟨hne, hne0, hne1⟩ := State.etxb_ne hlegal he
    subst hb
    rw [State.token_escaped h, if_neg hne, if_neg fun hc => hne0 hc.2 hc.1, if_neg fun hc => hne1 hc.2 hc.1,
      if_pos ⟨rfl, he⟩]
  case badEsc =>
    intro h hne hsync0 hsync1 hend
    rw [State.token_escaped h, if_neg hne, if_neg hsync0, if_neg hsync1, if_neg hend]

end Sys2Proof.Proofs

/-! SUPPORT. The fields of the logical frame: their lengths, their contents and their byte orders (30_encoding.md R110 to R113,
R116; 43_transmit.md R190 to R192). -/

namespace Sys2Proof.Machine

/-! ## The bytes of a half -/

theorem Half.lowByte_toNat (h : Half) : (Half.lowByte h).toNat = h.toNat % 256 := by
  rw [Half.lowByte, BitVec.extractLsb'_toNat, Nat.shiftRight_zero]

theorem Half.highByte_toNat (h : Half) : (Half.highByte h).toNat = h.toNat / 256 := by
  have := h.isLt
  rw [Half.highByte, BitVec.extractLsb'_toNat, Nat.shiftRight_eq_div_pow]
  omega

theorem Half.highByte_append_lowByte (h : Half) : Half.highByte h ++ Half.lowByte h = h := by
  apply BitVec.eq_of_toNat_eq
  rw [BitVec.toNat_append, ← Nat.shiftLeft_add_eq_or_of_lt (Half.lowByte h).isLt, Nat.shiftLeft_eq, Half.highByte_toNat,
    Half.lowByte_toNat]
  omega

/-! ## The sync sequence, the end marker and the stuffing -/

theorem State.syncSeq_eq (s : State) : s.syncSeq = if s.nsync = 1 then [s.sync0] else [s.sync0, s.sync1] := by
  simp only [s.nsync_eq_one_iff, State.syncSeq]
  cases s.nsync2 <;> rfl

theorem State.trailer_length (s : State) : s.trailer.length = 2 * s.endmk.toNat := by
  rw [State.trailer]
  cases s.endmk <;> rfl

/-- ESCSET (R113) as the statements write it. -/
theorem State.escaped_iff (s : State) (v : Byte) : s.escaped v = true ↔ v = s.esc ∨ s.nsync = 1 ∧ v = s.sync0 := by
  simp [State.escaped, s.nsync_eq_one_iff]

theorem State.stuff_cons (s : State) (v : Byte) (rest : List Byte) :
    s.stuff (v :: rest) = (if v = s.esc ∨ s.nsync = 1 ∧ v = s.sync0 then [s.esc, v] else [v]) ++ s.stuff rest := by
  simp only [State.stuff, s.escaped_iff]

/-! ## The length field (R111, R191) -/

theorem State.lenValue_eq (s : State) (n : Nat) : s.lenValue n = (s.ovh : Int) + n - s.lenAdj := by
  rw [State.lenValue, State.frameLen, Nat.cast_add]

theorem State.lenBytes_of_none {s : State} (h : s.lenw = 0) (l : Nat) : s.lenBytes l = [] := by
  simp [State.lenBytes, h]

theorem State.lenBytes_of_one {s : State} (h : s.lenw = 1) (l : Nat) :
    s.lenBytes l = [Half.lowByte (BitVec.ofNat 16 l)] := by
  simp [State.lenBytes, h]

theorem State.lenBytes_of_two {s : State} (h : s.lenw = 2) (l : Nat) :
    s.lenBytes l =
      if s.lenbe = true then [Half.highByte (BitVec.ofNat 16 l), Half.lowByte (BitVec.ofNat 16 l)]
      else [Half.lowByte (BitVec.ofNat 16 l), Half.highByte (BitVec.ofNat 16 l)] := by
  simp [State.lenBytes, h]

theorem State.lenBytes_length {s : State} (h : s.lenw ≤ 2) (l : Nat) : (s.lenBytes l).length = s.lenw := by
  obtain h0 | h1 | h2 : s.lenw = 0 ∨ s.lenw = 1 ∨ s.lenw = 2 := by omega
  · rw [State.lenBytes_of_none h0, h0, List.length_nil]
  · rw [State.lenBytes_of_one h1, h1, List.length_singleton]
  · rw [State.lenBytes_of_two h2, h2]
    split <;> rfl

theorem State.lenBytes_value_one {s : State} (h : s.lenw = 1) {l : Nat} (hl : l < 256) :
    ((s.lenBytes l).getD 0 0#8).toNat = l := by
  rw [State.lenBytes_of_one h, List.getD_cons_zero, Half.lowByte_toNat, BitVec.toNat_ofNat]
  omega

theorem State.lenBytes_value_le {s : State} (h : s.lenw = 2) (hbe : s.lenbe = false) {l : Nat} (hl : l < 65536) :
    ((s.lenBytes l).getD 0 0#8).toNat + 256 * ((s.lenBytes l).getD 1 0#8).toNat = l := by
  rw [State.lenBytes_of_two h, hbe, if_neg Bool.false_ne_true, List.getD_cons_succ, List.getD_cons_zero, List.getD_cons_zero,
    Half.lowByte_toNat, Half.highByte_toNat, BitVec.toNat_ofNat]
  omega

theorem State.lenBytes_value_be {s : State} (h : s.lenw = 2) (hbe : s.lenbe = true) {l : Nat} (hl : l < 65536) :
    256 * ((s.lenBytes l).getD 0 0#8).toNat + ((s.lenBytes l).getD 1 0#8).toNat = l := by
  rw [State.lenBytes_of_two h, hbe, if_pos rfl, List.getD_cons_succ, List.getD_cons_zero, List.getD_cons_zero,
    Half.lowByte_toNat, Half.highByte_toNat, BitVec.toNat_ofNat]
  omega

/-! ## The checksum field (R116, R177) -/

theorem State.chkBytes_of_xor {s : State} (h : s.crcAlg = false) (c : Half) : s.chkBytes c = [Half.lowByte c] := by
  simp [State.chkBytes, h]

theorem State.chkBytes_of_crc_le {s : State} (h : s.crcAlg = true) (hbe : s.chkbe = false) (c : Half) :
    s.chkBytes c = [Half.lowByte c, Half.highByte c] := by
  simp [State.chkBytes, h, hbe]

theorem State.chkBytes_of_crc_be {s : State} (h : s.crcAlg = true) (hbe : s.chkbe = true) (c : Half) :
    s.chkBytes c = [Half.highByte c, Half.lowByte c] := by
  simp [State.chkBytes, h, hbe]

theorem State.chkBytes_length (s : State) (c : Half) : (s.chkBytes c).length = s.chkw := by
  simp only [State.chkBytes, State.chkw]
  cases s.crcAlg
  · rfl
  · cases s.chkbe <;> rfl

/-- An XOR-8 checksum has no bit above 7 (R174), so its low byte is all of it. -/
theorem State.checksum_xor_lowByte {s : State} (h : s.crcAlg = false) (bs : List Byte) :
    (Half.lowByte (s.checksum bs)).setWidth 16 = s.checksum bs := by
  have hmask (acc : Half) : (Half.lowByte (acc &&& 0x00FF#16)).setWidth 16 = acc &&& 0x00FF#16 := by
    have hle : acc.toNat &&& 255 ≤ 255 := Nat.and_le_right
    have htoNat : (acc &&& 0x00FF#16).toNat = acc.toNat &&& 255 := BitVec.toNat_and ..
    apply BitVec.eq_of_toNat_eq
    rw [BitVec.toNat_setWidth, Half.lowByte_toNat, htoNat]
    omega
  have hfinal (acc : Half) : s.final acc = acc &&& 0x00FF#16 := by
    rw [State.final, h]
    rfl
  rw [State.checksum, hfinal]
  exact hmask _

/-- The receiver reads the checksum back from the bytes the transmitter writes. -/
theorem State.chkVal_chkBytes (s : State) (bs : List Byte) : s.chkVal (s.chkBytes (s.checksum bs)) = s.checksum bs := by
  cases hcrc : s.crcAlg with
  | false =>
    rw [State.chkBytes_of_xor hcrc, State.chkVal, hcrc]
    exact State.checksum_xor_lowByte hcrc bs
  | true =>
    cases hbe : s.chkbe with
    | false =>
      rw [State.chkBytes_of_crc_le hcrc hbe, State.chkVal, hcrc, hbe]
      exact Half.highByte_append_lowByte _
    | true =>
      rw [State.chkBytes_of_crc_be hcrc hbe, State.chkVal, hcrc, hbe]
      exact Half.highByte_append_lowByte _

/-! ## The frame -/

theorem State.logical_length {s : State} (h : s.lenw ≤ 2) (a : Byte) (p : List Byte) :
    (s.logical a p).length = s.ovh + p.length := by
  have haddr : (if s.hasAddr = true then [a] else []).length = s.hasAddr.toNat := by cases s.hasAddr <;> rfl
  simp only [State.logical, State.header, State.lenField, State.chkField, List.length_append, s.syncSeq_length, haddr,
    State.lenBytes_length h, s.trailer_length, s.chkBytes_length, State.ovh]
  omega

theorem State.wireFrame_of_unstuffed {s : State} (h : s.stuffed = false) (a : Byte) (p : List Byte) :
    s.wireFrame a p = s.logical a p := by
  simp [State.wireFrame, h]

theorem State.wireFrame_of_stuffed {s : State} (h : s.stuffed = true) (a : Byte) (p : List Byte) :
    s.wireFrame a p =
      s.syncSeq ++ s.stuff (s.header a p.length ++ p) ++ s.trailer ++ s.stuff (s.chkField a p) := by
  simp [State.wireFrame, h]

end Sys2Proof.Machine

namespace Sys2Proof.Proofs

open Sys2Proof.Machine

/-- Settles O36, field by field. -/
theorem logicalFrameHasItsFieldsAndLength : Obligations.LogicalFrameHasItsFieldsAndLength := by
  unfold Obligations.LogicalFrameHasItsFieldsAndLength
  intro s a p hw
  refine ⟨if s.hasAddr then [a] else [], s.lenField p.length, s.trailer, s.chkField a p, ?order, s.syncSeq_length,
    s.syncSeq_eq, rfl, State.lenBytes_length hw _, ?value, rfl, s.chkBytes_length _, ?checksum, State.logical_length hw a p,
    fun hs => State.wireFrame_of_unstuffed hs a p, fun hs => State.wireFrame_of_stuffed hs a p, rfl, s.stuff_cons⟩
  case order => simp only [State.logical, State.header, List.append_assoc]
  case value =>
    intro l hl0 hlmax
    have hl : s.lenValue p.length = l := s.lenValue_eq p.length
    clear_value l
    obtain ⟨n, rfl⟩ := Int.eq_ofNat_of_zero_le hl0
    have hfield : s.lenField p.length = s.lenBytes n := by rw [State.lenField, hl, Int.toNat_natCast]
    rw [hfield]
    refine ⟨fun h => ?one, fun h hbe => ?le, fun h hbe => ?be⟩
    case one =>
      have hn : n < 256 := by rw [h] at hlmax; omega
      rw [State.lenBytes_value_one h hn]
    case le =>
      have hn : n < 65536 := by rw [h] at hlmax; omega
      exact_mod_cast State.lenBytes_value_le h hbe hn
    case be =>
      have hn : n < 65536 := by rw [h] at hlmax; omega
      exact_mod_cast State.lenBytes_value_be h hbe hn
  case checksum =>
    exact ⟨s.chkVal_chkBytes _, fun h => State.chkBytes_of_xor h _, fun h hbe => State.chkBytes_of_crc_le h hbe _,
      fun h hbe => State.chkBytes_of_crc_be h hbe _⟩

/-- Settles O37, by the bound on the parts of the frame (`State.wireFrame_length_bounds`). -/
theorem wireFrameFitsTheQueue : Obligations.WireFrameFitsTheQueue := by
  unfold Obligations.WireFrameFitsTheQueue
  intro s a p hp
  obtain ⟨_, hmax⟩ := s.wireFrame_length_bounds a hp
  exact hmax

end Sys2Proof.Proofs

/-! SUPPORT. The levels of a character and what a receiver decides from them (30_encoding.md R106 to R108; 44_receive.md R211). -/

namespace Sys2Proof.Machine

open Sys2Proof.Safety

/-! ## The data bits (R106) -/

theorem dataBits_length (d : Byte) : (dataBits d).length = Config.dataBits := by
  rw [dataBits, List.length_map, List.length_range]

theorem dataBits_getD (d : Byte) {k : Nat} (hk : k < Config.dataBits) : (dataBits d).getD k false = d.getLsbD k := by
  simp [dataBits, List.getD_eq_getElem?_getD, hk]

/-- The byte of the first `n` of eight levels; `byteOfBits` is the case of all of them. -/
def byteOfFirstBits (bits : List Bool) (n : Nat) : Byte :=
  (List.range n).foldl (fun v k => if bits.getD k false then v ||| (1#8 <<< k) else v) 0#8

theorem byteOfBits_eq (bits : List Bool) : byteOfBits bits = byteOfFirstBits bits Config.dataBits := rfl

theorem byteOfFirstBits_succ (bits : List Bool) (n : Nat) :
    byteOfFirstBits bits (n + 1) =
      if bits.getD n false then byteOfFirstBits bits n ||| (1#8 <<< n) else byteOfFirstBits bits n := by
  rw [byteOfFirstBits, List.range_succ, List.foldl_append]
  rfl

theorem byteOfFirstBits_getLsbD (bits : List Bool) (n : Nat) {k : Nat} (hk : k < 8) :
    (byteOfFirstBits bits n).getLsbD k = (decide (k < n) && bits.getD k false) := by
  induction n with
  | zero => simp [byteOfFirstBits]
  | succ n ih =>
    have hbit : (1#8 <<< n).getLsbD k = decide (k = n) := by
      rw [← BitVec.twoPow_eq, BitVec.getLsbD_twoPow, ← Bool.decide_and, decide_eq_decide]
      omega
    rw [byteOfFirstBits_succ]
    by_cases hkn : k = n
    case pos =>
      subst hkn
      split
      · simp_all
      · simp_all
    case neg =>
      have hlt : k < n + 1 ↔ k < n := by omega
      split
      · simp [ih, hbit, hkn, hlt]
      · simp [ih, hlt]

theorem byteOfBits_getLsbD (bits : List Bool) {k : Nat} (hk : k < 8) :
    (byteOfBits bits).getLsbD k = bits.getD k false := by
  rw [byteOfBits_eq, byteOfFirstBits_getLsbD bits _ hk, decide_eq_true (show k < Config.dataBits from hk), Bool.true_and]

/-- The data bits of a byte are read back as the byte. -/
theorem byteOfBits_dataBits (d : Byte) : byteOfBits (dataBits d) = d :=
  BitVec.eq_of_getLsbD_eq fun k hk => by rw [byteOfBits_getLsbD _ hk, dataBits_getD d hk]

theorem byteOfBits_replicate_false (n : Nat) : byteOfBits (List.replicate n false) = 0#8 := by
  refine BitVec.eq_of_getLsbD_eq fun k hk => ?_
  rw [byteOfBits_getLsbD _ hk, BitVec.getLsbD_zero, List.getD_eq_getElem?_getD, List.getElem?_replicate]
  split <;> rfl

/-! ## The parity bit (R107) -/

theorem State.parityBit_even {s : State} (h : s.parity = 1#2) (d : Byte) :
    (onesBelow d 8 + (s.parityBit d).toNat) % 2 = 0 := by
  obtain h0 | h1 := Nat.mod_two_eq_zero_or_one (onesBelow d 8)
  · simp [State.parityBit, h, Config.dataBits, h0]
  · simp [State.parityBit, h, Config.dataBits, h1, Nat.add_mod]

theorem State.parityBit_odd {s : State} (h : s.parity = 2#2) (d : Byte) :
    (onesBelow d 8 + (s.parityBit d).toNat) % 2 = 1 := by
  obtain h0 | h1 := Nat.mod_two_eq_zero_or_one (onesBelow d 8)
  · simp [State.parityBit, h, Config.dataBits, h0, Nat.add_mod]
  · simp [State.parityBit, h, Config.dataBits, h1]

/-! ## One character -/

/-- The parity level, if the line has one, and the stop bits. -/
def State.charTail (s : State) (d : Byte) : List Bool :=
  (if s.hasParity then [s.parityBit d] else []) ++ (if s.stop2 then [true, true] else [true])

theorem State.charBits_eq (s : State) (d : Byte) : s.charBits d = false :: (dataBits d ++ s.charTail d) := by
  rw [State.charBits, State.charTail, List.append_assoc, List.append_assoc, List.singleton_append]

theorem State.charBits_length (s : State) (d : Byte) : (s.charBits d).length = s.charLen := by
  have htail : (s.charTail d).length = s.hasParity.toNat + (1 + s.stop2.toNat) := by
    rw [State.charTail]
    cases s.hasParity <;> cases s.stop2 <;> rfl
  rw [s.charBits_eq, List.length_cons, List.length_append, dataBits_length, htail, State.charLen]
  omega

/-- The line is left at 1: the last level of a character is a stop bit. -/
theorem State.charBits_eq_concat (s : State) (d : Byte) : ∃ mid, s.charBits d = false :: (mid ++ [true]) := by
  rw [s.charBits_eq, State.charTail]
  cases s.stop2
  · exact ⟨dataBits d ++ (if s.hasParity then [s.parityBit d] else []), by simp⟩
  · exact ⟨dataBits d ++ (if s.hasParity then [s.parityBit d] else []) ++ [true], by simp⟩

/-- What a receiver decides, by the data bits and the levels after them. -/
theorem State.sampleChar_append (s : State) {bits : List Bool} (h : bits.length = Config.dataBits) (tail : List Bool) :
    s.sampleChar (false :: (bits ++ tail)) =
      if byteOfBits bits = 0#8 ∧ tail.getD s.hasParity.toNat false = false ∧ (s.hasParity && tail.getD 0 false) = false then
        { b := 0#8, pe := false, se := false, brk := true, gap := false }
      else
        { b := byteOfBits bits, pe := s.hasParity && tail.getD 0 false != s.parityBit (byteOfBits bits),
          se := !tail.getD s.hasParity.toNat false, brk := false, gap := false } := by
  have hlevel (k : Nat) : (bits ++ tail).getD (Config.dataBits + k) false = tail.getD k false := by
    rw [List.getD_append_right _ _ _ _ (by omega), h, Nat.add_sub_cancel_left]
  have hpar : (bits ++ tail).getD Config.dataBits false = tail.getD 0 false := hlevel 0
  simp only [State.sampleChar, List.drop_succ_cons, List.drop_zero, List.take_left' h, hlevel, hpar, Bool.and_eq_true,
    Bool.not_eq_true', beq_iff_eq, and_assoc]

/-- A whole character is received clean (R211). -/
theorem State.sampleChar_charBits (s : State) (d : Byte) :
    s.sampleChar (s.charBits d) = { b := d, pe := false, se := false, brk := false, gap := false } := by
  have hstop : (s.charTail d).getD s.hasParity.toNat false = true := by
    rw [State.charTail]
    cases s.hasParity <;> cases s.stop2 <;> rfl
  have hpar : (s.hasParity && (s.charTail d).getD 0 false != s.parityBit d) = false := by
    rw [State.charTail]
    cases s.hasParity
    · rfl
    · exact bne_self_eq_false (s.parityBit d)
  rw [s.charBits_eq, s.sampleChar_append (dataBits_length d), if_neg (by simp only [hstop]; simp), byteOfBits_dataBits,
    hpar, hstop]
  rfl

/-- Levels held at 0 through the first stop bit are a break (R108). -/
theorem State.sampleChar_held (s : State) (tail : List Bool) :
    s.sampleChar (List.replicate (10 + s.hasParity.toNat) false ++ tail) =
      { b := 0#8, pe := false, se := false, brk := true, gap := false } := by
  have hsplit : List.replicate (10 + s.hasParity.toNat) false ++ tail =
      false :: (List.replicate 8 false ++ (List.replicate (1 + s.hasParity.toNat) false ++ tail)) := by
    rw [← List.append_assoc, ← List.replicate_add, ← List.cons_append, ← List.replicate_succ]
    congr 2
    omega
  have hlow {k : Nat} (hk : k < 1 + s.hasParity.toNat) :
      (List.replicate (1 + s.hasParity.toNat) false ++ tail).getD k false = false := by
    rw [List.getD_append _ _ _ _ (by rwa [List.length_replicate]), List.getD_replicate _ hk]
  have hdata : (List.replicate 8 false).length = Config.dataBits := List.length_replicate
  rw [hsplit, s.sampleChar_append hdata, if_pos]
  exact ⟨byteOfBits_replicate_false 8, hlow (by omega), by rw [hlow (by omega), Bool.and_false]⟩

/-- Whatever the levels, the entry is one LINE may present (R211). -/
theorem State.sampleChar_allowed (s : State) (levels : List Bool) : s.lineAllowed (s.sampleChar levels) = true := by
  unfold State.sampleChar
  dsimp only
  split
  case isTrue => rfl
  case isFalse =>
    simp only [State.lineAllowed]
    cases s.hasParity <;> simp

/-! ## A stream of levels -/

/-- Levels within a character are taken without a report. -/
theorem State.receiveLevels_taking_append (s : State) (got mid rest : List Bool)
    (h : got.length + mid.length < s.charLen) :
    s.receiveLevels (.taking got) (mid ++ rest) = s.receiveLevels (.taking (got ++ mid)) rest := by
  induction mid generalizing got with
  | nil => rw [List.nil_append, List.append_nil]
  | cons l mid ih =>
    rw [List.length_cons] at h
    rw [List.cons_append, s.receiveLevels_taking got l _ (by omega), ih, List.append_assoc, List.singleton_append]
    rw [List.length_append, List.length_singleton]
    omega

/-- From a start bit the levels of one character are one entry. -/
theorem State.receiveLevels_character (s : State) (mid : List Bool) (l : Bool) (rest : List Bool)
    (h : mid.length + 2 = s.charLen) :
    s.receiveLevels .waiting (false :: (mid ++ l :: rest)) =
      s.sampleChar (false :: (mid ++ [l])) ::
        s.receiveLevels (if (s.sampleChar (false :: (mid ++ [l]))).brk && !l then .broken else .waiting) rest := by
  rw [s.receiveLevels_waiting_space, s.receiveLevels_taking_append [false] mid (l :: rest) (by rw [List.length_singleton]; omega),
    s.receiveLevels_taking_last]
  · rfl
  · rw [List.length_append, List.length_singleton]
    omega

theorem State.receiveLevels_charBits (s : State) (d : Byte) (rest : List Bool) :
    s.receiveLevels .waiting (s.charBits d ++ rest) =
      { b := d, pe := false, se := false, brk := false, gap := false } :: s.receiveLevels .waiting rest := by
  obtain ⟨mid, hmid⟩ := s.charBits_eq_concat d
  have hlen : mid.length + 2 = s.charLen := by
    rw [← s.charBits_length d, hmid, List.length_cons, List.length_append, List.length_singleton]
  have hchar := s.sampleChar_charBits d
  rw [hmid] at hchar
  rw [hmid, List.cons_append, List.append_assoc, List.singleton_append, s.receiveLevels_character mid true rest hlen, hchar]
  rfl

/-- Characters sent one after the other are received as they were sent. -/
theorem State.receiveLevels_flatMap_charBits (s : State) (bs : List Byte) (rest : List Bool) :
    s.receiveLevels .waiting (bs.flatMap s.charBits ++ rest) =
      cleanEntries bs ++ s.receiveLevels .waiting rest := by
  induction bs with
  | nil => rfl
  | cons d bs ih =>
    rw [List.flatMap_cons, List.append_assoc, s.receiveLevels_charBits, ih]
    rfl

/-- A line still held at 0 after a break reports nothing more. -/
theorem State.receiveLevels_broken_held (s : State) (n : Nat) (rest : List Bool) :
    s.receiveLevels .broken (List.replicate n false ++ true :: rest) = s.receiveLevels .waiting rest := by
  induction n with
  | zero => rfl
  | succ n ih => rw [List.replicate_succ, List.cons_append, s.receiveLevels_broken_space, ih]

/-- A line held at 0 through the first stop bit, and as long after it as may be, is one break (R108). -/
theorem State.receiveLevels_held (s : State) {n : Nat} (h : 10 + s.hasParity.toNat ≤ n) (rest : List Bool) :
    s.receiveLevels .waiting (List.replicate n false ++ true :: rest) =
      { b := 0#8, pe := false, se := false, brk := true, gap := false } :: s.receiveLevels .waiting rest := by
  have hstop : s.stop2.toNat ≤ 1 := Bool.toNat_le _
  have hlen : s.charLen = 10 + s.hasParity.toNat + s.stop2.toNat := by rw [State.charLen, Config.dataBits]; omega
  by_cases hlong : s.charLen ≤ n
  case pos =>
    obtain ⟨m, rfl⟩ := Nat.exists_eq_add_of_le hlong
    obtain ⟨k, hk⟩ := Nat.exists_eq_add_of_le (show 2 ≤ s.charLen by omega)
    have hlevels : false :: (List.replicate k false ++ [false]) =
        List.replicate (10 + s.hasParity.toNat) false ++ List.replicate s.stop2.toNat false := by
      rw [← List.replicate_succ', ← List.replicate_succ, ← List.replicate_add]
      congr 1
      omega
    have hsplit : List.replicate (s.charLen + m) false ++ true :: rest =
        false :: (List.replicate k false ++ false :: (List.replicate m false ++ true :: rest)) := by
      rw [hk, List.replicate_add, Nat.add_comm 2 k, List.replicate_succ, List.replicate_succ']
      simp only [List.cons_append, List.append_assoc, List.nil_append]
    rw [hsplit, s.receiveLevels_character _ false _ (by rw [List.length_replicate]; omega), hlevels, s.sampleChar_held]
    exact congrArg _ (s.receiveLevels_broken_held m rest)
  case neg =>
    obtain ⟨k, rfl⟩ := Nat.exists_eq_add_of_le' (show 1 ≤ n by omega)
    have hlevels : false :: (List.replicate k false ++ [true]) =
        List.replicate (10 + s.hasParity.toNat) false ++ [true] := by
      rw [← List.cons_append, ← List.replicate_succ]
      congr 2
      omega
    rw [List.replicate_succ, List.cons_append,
      s.receiveLevels_character _ true rest (by rw [List.length_replicate]; omega), hlevels, s.sampleChar_held]
    rfl

end Sys2Proof.Machine

namespace Sys2Proof.Proofs

open Sys2Proof.Machine

/-- Settles O40, part by part: parity, one character, any levels, a stream of characters, an idle line, a held line. -/
theorem sampledCharactersAreAllowedEntries : Obligations.SampledCharactersAreAllowedEntries := by
  unfold Obligations.SampledCharactersAreAllowedEntries
  exact ⟨fun s d h => State.parityBit_even h d, fun s d h => State.parityBit_odd h d, State.sampleChar_charBits,
    State.sampleChar_allowed, State.receiveLevels_flatMap_charBits, State.receiveLevels_waiting_mark,
    fun s _ rest h => s.receiveLevels_held h rest⟩

end Sys2Proof.Proofs

/-! SUPPORT. RXBUF while a frame is held (40_register_ops.md R133; 44_receive.md R234, R241): FRX and RXT rest in HOLD, the
moves of LINE and TXU never write the buffers, and the host stores to TXBUF only. -/

namespace Sys2Proof.Machine

/-! ## The moves that never write the buffers -/

@[simp] theorem State.takeChar_mem (s : State) (e : Entry) : (s.takeChar e).mem = s.mem := by
  rcases s.takeChar_cases e with ⟨_, h⟩ | ⟨_, k, h⟩
  · rw [h]
  · rw [h]

@[simp] theorem State.arrive_mem (s : State) (e : Entry) (src : CharSource) : (s.arrive e src).mem = s.mem := by
  rcases s.arrive_cases e src with h | ⟨_, _, h⟩
  · rw [h]
  · rw [h, State.takeChar_mem]

@[simp] theorem State.lineStep_mem (s : State) (e : Entry) : (s.lineStep e).mem = s.mem := by
  unfold State.lineStep
  split
  · exact s.arrive_mem e .ext
  · rfl

@[simp] theorem State.loadStep_mem (s : State) : s.loadStep.mem = s.mem := by
  rcases s.loadStep_cases with h | ⟨_, _, _, b, rest, _, h⟩
  · rw [h]
  · rw [h]

@[simp] theorem State.endFrame_mem (s : State) : s.endFrame.mem = s.mem := by
  rcases s.endFrame_cases with ⟨_, _, h⟩ | ⟨_, h⟩
  · rw [h]; rfl
  · rw [h]

@[simp] theorem State.emitStep_mem (s : State) : s.emitStep.mem = s.mem := by
  rcases s.emitStep_cases with h | ⟨_, b, _, ⟨_, h⟩ | ⟨_, h⟩⟩
  · rw [h]
  · rw [h, State.endFrame_mem, State.loopDeliver, State.arrive_mem]
  · rw [h, State.endFrame_mem]

/-! ## The decoder at rest -/

theorem State.frxStep_of_hold {s : State} (hold : s.fstate = .hold) : s.frxStep = s := by
  rcases s.frxStep_cases with ⟨_, h⟩ | ⟨hen, _⟩
  · exact h
  · obtain ⟨_, _, hne, _⟩ := s.frxEnabled_iff.1 hen
    exact absurd hold hne

theorem State.rxtStep_of_hold {s : State} (hold : s.fstate = .hold) : s.rxtStep = s := by
  have hrests : (s.fstate == .sync || s.fstate.isCand) = false := by rw [hold]; rfl
  simp only [State.rxtStep, State.rxtEnabled, hrests, Bool.and_false, Bool.false_and, Bool.false_eq_true, if_false]

/-- While a frame is held only the reset's release changes the buffers without the host. -/
theorem agentMove_mem_of_hold {s : State} (hold : s.fstate = .hold) {m : Move} (hm : m ≠ .releaseReset) :
    (agentMove m s).mem = s.mem := by
  cases m with
  | host h => rfl
  | line e => simp only [agentMove, apply_ite State.mem, State.lineStep_mem, ite_self]
  | load => simp only [agentMove, apply_ite State.mem, State.loadStep_mem, ite_self]
  | emit => simp only [agentMove, apply_ite State.mem, State.emitStep_mem, ite_self]
  | frx => simp only [agentMove, State.frxStep_of_hold hold, ite_self]
  | rxt => simp only [agentMove, State.rxtStep_of_hold hold, ite_self]
  | assertReset => rfl
  | releaseReset => exact absurd rfl hm

/-! ## The host -/

/-- An aligned access to a buffer ends within the buffer (R73). -/
theorem aligned_end_le {i : Byte} {size : Size} (ha : i.toNat % size.bytes = 0) : i.toNat + size.bytes ≤ 256 := by
  have hi := i.isLt
  cases size <;> simp only [Size.bytes] at ha ⊢ <;> omega

/-- No access writes a byte of RXBUF (R77, R133). -/
theorem exec_mem_read_of_rxbuf {i : Instr} {s t : State} (h : exec i s = .next t) {a : Nat} (ha : 0x200 ≤ a) :
    t.mem.read a = s.mem.read a := by
  obtain ⟨u, r, hu, rfl⟩ := exec_effect h
  rcases hu.mem_cases with hm | ⟨j, size, d, _, halign, hm⟩
  · exact congrArg (Memory.read · a) hm
  · have hend := aligned_end_le halign
    dsimp only
    rw [hm, Memory.read_writeBytes_outside _ _ _ _ (.inr (by rw [leBytes_length]; omega))]

theorem hostStep_mem_read_of_rxbuf {h : HostWord} {s t : State} (hstep : hostStep h s = .next t) {a : Nat}
    (ha : 0x200 ≤ a) : t.mem.read a = s.mem.read a := by
  unfold hostStep at hstep
  split at hstep
  · cases hstep
  · split at hstep
    · exact exec_mem_read_of_rxbuf hstep ha
    · cases hstep

/-- The internal agents' own move is no move of the reset input. -/
theorem internalMove_ne_releaseReset {s : State} {m : Move} (hm : internalMove s = some m) : m ≠ .releaseReset := by
  obtain ⟨_, ⟨rfl, _⟩ | ⟨rfl, _⟩ | ⟨rfl, _⟩⟩ := internalMove_cases s m hm <;> exact Move.noConfusion

end Sys2Proof.Machine

namespace Sys2Proof.Proofs

open Sys2Proof.Machine

/-- Settles O53, by what the fetch of the next move can be: a host access stores to TXBUF only, and no agent's move writes
the buffers in HOLD. -/
theorem heldFrameStaysStable : Obligations.HeldFrameStaysStable := by
  unfold Obligations.HeldFrameStaysStable
  intro s t hold hhead hstep a ha
  rcases fetch_cases s with ⟨hs, hm, _⟩ | ⟨m, hs, hm, _⟩ | ⟨h, rest, hs, _⟩ | ⟨m, rest, hs, hm, _⟩
  · rw [step_idle hs hm] at hstep
    cases hstep
    rfl
  · rw [step_internal hs hm] at hstep
    cases hstep
    rw [agentMove_mem_of_hold hold (internalMove_ne_releaseReset hm)]
  · rw [step_host hs] at hstep
    exact hostStep_mem_read_of_rxbuf hstep ha
  · rw [step_agent hs hm] at hstep
    cases hstep
    have hne : m ≠ .releaseReset := fun e => hhead (by rw [hs, e]; rfl)
    rw [agentMove_mem_of_hold (s := { s with sched := rest }) hold hne]

end Sys2Proof.Proofs

/-! SUPPORT. The write to CMD (40_register_ops.md R134; 41_commands.md R150): the command it performs, and which commands
complete in every state. -/

namespace Sys2Proof.Machine

/-- The access completes, whatever the state (R17). -/
def Completes (o : Host.Outcome State Fault Refusal) : Prop := ∃ t, o = .next t ∧ t.resp = .done

theorem Completes.complete (s : State) : Completes s.complete := ⟨_, rfl, rfl⟩

theorem execRxrelease_completes (s : State) : Completes (execRxrelease s) := by
  unfold execRxrelease
  split
  · exact .complete _
  · exact .complete _

theorem execResync_completes (s : State) : Completes (execResync s) := by
  unfold execResync
  split
  · exact .complete _
  · exact .complete _

/-- Every command completes but the two that read TXBUF (R153, R160). -/
theorem exec_decodeCmd_completes {w : Word} (htx : w.extractLsb' 0 8 ≠ 0x02#8) (hfeed : w.extractLsb' 0 8 ≠ 0x09#8)
    (s : State) : Completes (exec (decodeCmd w) s) := by
  unfold decodeCmd
  dsimp only
  split
  case h_3 h => exact absurd (BitVec.eq_of_toNat_eq h) htx
  case h_10 h => exact absurd (BitVec.eq_of_toNat_eq h) hfeed
  case h_5 => exact execRxrelease_completes s
  case h_6 => exact execResync_completes s
  all_goals exact .complete _

end Sys2Proof.Machine

namespace Sys2Proof.Proofs

open Sys2Proof.Machine

/-- Settles O7: `perform` is exec of the decoded command, behind the checks of a register access. -/
theorem cmdWritePerformsTheSelectedCommand : Obligations.CmdWritePerformsTheSelectedCommand := by
  unfold Obligations.CmdWritePerformsTheSelectedCommand
  have performs (s : State) (w : Word) : exec (.wrCmd 0#2 .b4 w) s = exec (decodeCmd w) s :=
    (s.regAccess_ok .cmd _).trans (perform_eq_exec_decodeCmd w s)
  refine ⟨performs, fun s w htx hfeed => ?completes, fun s lo size w hbad => ?bad⟩
  case completes =>
    rw [performs]
    exact exec_decodeCmd_completes htx hfeed s
  case bad => simp only [exec, execWrCmd, State.regAccess_bad hbad, Reg.offset_eq_add, Reg.index]

end Sys2Proof.Proofs

/-! SUPPORT. The write to CTRL (40_register_ops.md R122 to R124): what it stores while closed and while open, bit by bit, and
its transitions. -/

namespace Sys2Proof.Machine

/-! ## The masks of CTRL -/

/-- The bits of a word by those that it has: the bits 31:0 decide. -/
theorem getLsbD_eq_decide {m : Word} {p : Nat → Prop} [DecidablePred p] (hp : ∀ i, p i → i < 32)
    (hbits : ∀ i < 32, m.getLsbD i = decide (p i)) (i : Nat) : m.getLsbD i = decide (p i) := by
  by_cases hi : i < 32
  · exact hbits i hi
  · rw [BitVec.getLsbD_of_ge _ _ (by omega), decide_eq_false fun h => hi (hp i h)]

/-- FRMEN and LOOP. -/
theorem mask_0x18_getLsbD (i : Nat) : (0x18#32).getLsbD i = decide (i = 3 ∨ i = 4) :=
  getLsbD_eq_decide (p := fun i => i = 3 ∨ i = 4) (by omega) (by decide) i

/-- The fields of CTRL above EN. -/
theorem mask_0x7E_getLsbD (i : Nat) : (0x7E#32).getLsbD i = decide (1 ≤ i ∧ i < 7) :=
  getLsbD_eq_decide (p := fun i => 1 ≤ i ∧ i < 7) (by omega) (by decide) i

/-- Every field of CTRL. -/
theorem mask_0x7F_getLsbD (i : Nat) : (0x7F#32).getLsbD i = decide (i < 7) :=
  getLsbD_eq_decide (p := fun i => i < 7) (by omega) (by decide) i

/-- Two words agree in FRMEN and LOOP. -/
theorem and_0x18_eq_iff (v c : Word) :
    v &&& 0x18#32 = c &&& 0x18#32 ↔ v.getLsbD 3 = c.getLsbD 3 ∧ v.getLsbD 4 = c.getLsbD 4 := by
  constructor
  · intro h
    have hbit (i : Nat) : (v &&& 0x18#32).getLsbD i = (c &&& 0x18#32).getLsbD i := by rw [h]
    exact ⟨by simpa using hbit 3, by simpa using hbit 4⟩
  · rintro ⟨h3, h4⟩
    refine BitVec.eq_of_getLsbD_eq fun i _ => ?_
    rw [BitVec.getLsbD_and, BitVec.getLsbD_and, mask_0x18_getLsbD]
    by_cases hi : i = 3 ∨ i = 4
    · rcases hi with rfl | rfl
      · rw [h3]
      · rw [h4]
    · rw [decide_eq_false hi, Bool.and_false, Bool.and_false]

/-! ## While closed -/

theorem State.ctrlFields_of_closed {s : State} (hen : s.en = false) (w : Word) :
    s.ctrlFields w = { s with ctrl := w &&& 0x7E#32 } := by
  simp only [State.ctrlFields, State.signalIf, s.ctrl_and_one, hen, Bool.false_and, Bool.false_eq_true, if_false,
    BitVec.or_zero]

/-- Without the bit EN the fields are stored; with it the block is then opened (R122). -/
theorem State.writeCtrl_of_closed {s : State} (hen : s.en = false) (w : Word) :
    s.writeCtrl w =
      if w.getLsbD 0 then { s with ctrl := w &&& 0x7E#32 }.openBlock else { s with ctrl := w &&& 0x7E#32 } := by
  have hmask : w &&& 0x7F#32 &&& 0x7E#32 = w &&& 0x7E#32 := by rw [BitVec.and_assoc]; rfl
  simp only [State.writeCtrl, State.ctrlFields_of_closed hen, hmask, hen, Bool.not_false, Bool.true_and,
    Bool.false_and, Bool.false_eq_true, if_false]

/-- The fields with EN set are the data of a write that has the bit EN. -/
theorem and_0x7E_or_one {w : Word} (hw : w.getLsbD 0 = true) : w &&& 0x7E#32 ||| 1#32 = w &&& 0x7F#32 := by
  have hone : 1#32 = w &&& 1#32 := by
    rw [BitVec.and_one_eq_setWidth_ofBool_getLsbD, hw]
    rfl
  calc w &&& 0x7E#32 ||| 1#32 = w &&& 0x7E#32 ||| w &&& 1#32 := by rw [← hone]
    _ = w &&& 0x7F#32 := BitVec.and_or_distrib_left.symm

theorem State.openBlock_of_legal {s : State} (hlegal : s.legal = true) : s.openBlock = { s with ctrl := s.ctrl ||| 1#32 } := by
  rw [State.openBlock, if_pos hlegal]

theorem State.openBlock_of_illegal {s : State} (hlegal : s.legal = false) :
    s.openBlock = { s with ctrl := s.ctrl &&& ~~~1#32, sticky := s.sticky ||| 0x0400#14 } := by
  rw [State.openBlock, hlegal, if_neg Bool.false_ne_true]
  rfl

/-! ## While open -/

/-- What CTRL holds after the fields of an open block are written: the old FRMEN and LOOP, EN still set (R124). -/
def State.ctrlKept (s : State) (w : Word) : Word := (w &&& ~~~0x18#32 ||| s.ctrl &&& 0x18#32) &&& 0x7E#32 ||| 1#32

theorem State.ctrlKept_getLsbD (s : State) (w : Word) (i : Nat) :
    (s.ctrlKept w).getLsbD i =
      if i = 0 then true else if i = 3 ∨ i = 4 then s.ctrl.getLsbD i else if i < 7 then w.getLsbD i else false := by
  rw [State.ctrlKept, BitVec.getLsbD_or, BitVec.getLsbD_and, BitVec.getLsbD_or, BitVec.getLsbD_and, BitVec.getLsbD_and,
    BitVec.getLsbD_not, mask_0x18_getLsbD, mask_0x7E_getLsbD, BitVec.getLsbD_one]
  split
  next h0 => simp [h0]
  next h0 =>
    split
    next hkept => simp [hkept, show 1 ≤ i ∧ i < 7 by omega, h0]
    next hkept =>
      split
      next hlow => simp [hkept, show 1 ≤ i ∧ i < 7 by omega, h0, show i < 32 by omega]
      next hhigh => simp [show ¬(1 ≤ i ∧ i < 7) by omega, h0]

/-- The bits above the fields of CTRL are ignored. -/
theorem State.ctrlKept_and_0x7F (s : State) (w : Word) : s.ctrlKept (w &&& 0x7F#32) = s.ctrlKept w := by
  refine BitVec.eq_of_getLsbD_eq fun i _ => ?_
  rw [s.ctrlKept_getLsbD, s.ctrlKept_getLsbD]
  split_ifs with h0 hkept hlow
  · rfl
  · rfl
  · rw [BitVec.getLsbD_and, mask_0x7F_getLsbD, decide_eq_true hlow, Bool.and_true]
  · rfl

/-- CTRL after a write to an open block, whose bit EN the transition gives (R123, R124). -/
theorem State.getLsbD_of_ctrlKept {s : State} {w c : Word} (hen : c.getLsbD 0 = w.getLsbD 0)
    (hfields : ∀ i, i ≠ 0 → c.getLsbD i = (s.ctrlKept w).getLsbD i) (i : Nat) :
    c.getLsbD i = if i = 3 ∨ i = 4 then s.ctrl.getLsbD i else if i < 7 then w.getLsbD i else false := by
  by_cases h0 : i = 0
  · rw [h0, hen, if_neg (by decide), if_pos (by decide)]
  · rw [hfields i h0, s.ctrlKept_getLsbD, if_neg h0]

/-- Clearing EN leaves the other bits of CTRL (R123). -/
theorem clearEn_getLsbD (c : Word) (i : Nat) : (c &&& ~~~1#32).getLsbD i = (c.getLsbD i && decide (i ≠ 0)) := by
  rw [BitVec.getLsbD_and, BitVec.getLsbD_not, BitVec.getLsbD_one]
  by_cases hi : i < 32
  · simp [hi]
  · rw [BitVec.getLsbD_of_ge c i (by omega), Bool.false_and, Bool.false_and]

/-- The write would change FRMEN or LOOP. -/
def State.LockedChange (s : State) (w : Word) : Prop := w.getLsbD 3 ≠ s.ctrl.getLsbD 3 ∨ w.getLsbD 4 ≠ s.ctrl.getLsbD 4

theorem State.lockedChange_iff (s : State) (w : Word) : s.LockedChange w ↔ w &&& 0x18#32 ≠ s.ctrl &&& 0x18#32 := by
  rw [ne_eq, and_0x18_eq_iff, not_and_or]
  rfl

theorem State.lockedChange_and_0x7F (s : State) (w : Word) : s.LockedChange (w &&& 0x7F#32) ↔ s.LockedChange w := by
  have hmask : w &&& 0x7F#32 &&& 0x18#32 = w &&& 0x18#32 := by rw [BitVec.and_assoc]; rfl
  rw [s.lockedChange_iff, hmask, ← s.lockedChange_iff]

/-- An open block keeps FRMEN and LOOP, and signals CFGERR where the write would change them (R124). -/
theorem State.ctrlFields_of_open {s : State} (hen : s.en = true) (w : Word) :
    ∃ k, s.ctrlFields w = { s with ctrl := s.ctrlKept w, sticky := k } ∧
      (s.LockedChange w → k = s.sticky ||| 0x0400#14) ∧ (¬s.LockedChange w → k = s.sticky) := by
  have hone : s.ctrl &&& 1#32 = 1#32 := by rw [s.ctrl_and_one, hen, if_pos rfl]
  by_cases heq : w &&& 0x18#32 = s.ctrl &&& 0x18#32
  · have hsame : w &&& ~~~0x18#32 ||| s.ctrl &&& 0x18#32 = w := by
      rw [← heq, ← BitVec.and_or_distrib_left]
      exact BitVec.and_allOnes
    refine ⟨s.sticky, ?_, fun h => absurd heq ((s.lockedChange_iff w).1 h), fun _ => rfl⟩
    simp only [State.ctrlFields, State.ctrlKept, State.signalIf, hone, hen, hsame, heq, bne_self_eq_false,
      Bool.and_false, Bool.false_eq_true, if_false]
  · have hrefuse : (s.en && (w &&& 0x18#32 != s.ctrl &&& 0x18#32)) = true := by
      rw [hen, Bool.true_and, bne_iff_ne]
      exact heq
    refine ⟨s.sticky ||| 0x0400#14, ?_, fun _ => rfl, fun h => absurd ((s.lockedChange_iff w).2 heq) h⟩
    simp only [State.ctrlFields, State.ctrlKept, State.signalIf, hone, hrefuse, if_true]
    rfl

/-- A write to an open block stores its fields, and closes the block where it clears EN (R123). -/
theorem State.writeCtrl_of_open {s : State} (hen : s.en = true) (w : Word) :
    ∃ k, s.writeCtrl w = (if w.getLsbD 0 then { s with ctrl := s.ctrlKept w, sticky := k }
        else { s with ctrl := s.ctrlKept w, sticky := k }.close) ∧
      (s.LockedChange w → k = s.sticky ||| 0x0400#14) ∧ (¬s.LockedChange w → k = s.sticky) := by
  obtain ⟨k, hfields, hchange, hsame⟩ := State.ctrlFields_of_open hen (w &&& 0x7F#32)
  rw [s.lockedChange_and_0x7F] at hchange hsame
  refine ⟨k, ?_, hchange, hsame⟩
  rw [State.writeCtrl, hfields, s.ctrlKept_and_0x7F, hen]
  cases w.getLsbD 0 with
  | false => rfl
  | true => rfl

end Sys2Proof.Machine

namespace Sys2Proof.Proofs

open Sys2Proof.Machine

/-- Settles O18, transition by transition. -/
theorem ctrlWriteStoresOpensAndCloses : Obligations.CtrlWriteStoresOpensAndCloses := by
  unfold Obligations.CtrlWriteStoresOpensAndCloses
  simp only [exec, execWrCtrl, State.regAccess_ok]
  refine ⟨fun s w hen hw => ?staysClosed, fun s w hen hw hlegal => ?opens, fun s w hen hw hlegal => ?refused,
    fun s w hen => ?fromOpen, fun s lo size w hbad => ?bad⟩
  case staysClosed =>
    rw [State.writeCtrl_of_closed hen, hw, if_neg Bool.false_ne_true]
    rfl
  case opens =>
    rw [State.writeCtrl_of_closed hen, if_pos hw, State.openBlock_of_legal (s := { s with ctrl := w &&& 0x7E#32 }) hlegal]
    dsimp only
    rw [and_0x7E_or_one hw]
    rfl
  case refused =>
    rw [State.writeCtrl_of_closed hen, if_pos hw, State.openBlock_of_illegal (s := { s with ctrl := w &&& 0x7E#32 }) hlegal]
    dsimp only
    rw [BitVec.and_assoc]
    rfl
  case fromOpen =>
    obtain ⟨k, hwrite, hchange, hsame⟩ := State.writeCtrl_of_open hen w
    rw [hwrite]
    cases hw : w.getLsbD 0 with
    | true =>
      refine ⟨_, rfl, State.getLsbD_of_ctrlKept ?_ fun _ _ => rfl, hchange, hsame, fun _ => rfl, nofun⟩
      rw [hw]
      exact (s.ctrlKept_getLsbD w 0).trans (if_pos rfl)
    | false =>
      refine ⟨_, rfl, State.getLsbD_of_ctrlKept ?_ fun i hi => ?_, hchange, hsame, nofun, fun _ => rfl⟩
      · rw [hw]
        exact (clearEn_getLsbD _ 0).trans (Bool.and_false _)
      · exact (clearEn_getLsbD _ i).trans (by rw [decide_eq_true hi, Bool.and_true])
  case bad => simp only [State.regAccess_bad hbad, Reg.offset_eq_add, Reg.index]

end Sys2Proof.Proofs

/-! SUPPORT. The plain register reads (40_register_ops.md R120), the writes that no lock refuses (R125, R126, R130, R131), and
the accesses that queue or pop (R127 to R129; 10_state.md R37, R39). -/

namespace Sys2Proof.Machine

/-! ## Plain reads and write 1 to clear -/

/-- A plain read of the right size and alignment answers the register's value. -/
theorem exec_rdReg_ok (r : Reg) (s : State) :
    exec (.rdReg r 0#2 .b4) s = .next { s with resp := .data (s.regValue r) } := s.regAccess_ok r _

/-- A counter stands in bits 15:0 of its register (R41). -/
theorem counterWord_eq (c : Half) : c.setWidth 32 = (0#16 ++ c : Word) := BitVec.setWidth_eq_append (by decide)

/-- Write 1 to clear, bit by bit; the bits above 13 are ignored (R126). -/
theorem clearEvents_getLsbD (s : State) (w : Word) {i : Nat} (hi : i < 14) :
    (s.clearEvents (w.extractLsb' 0 14)).sticky.getLsbD i = (s.sticky.getLsbD i && !w.getLsbD i) := by
  rw [State.clearEvents_sticky, BitVec.getLsbD_and, BitVec.getLsbD_not, BitVec.getLsbD_extractLsb', Nat.zero_add,
    decide_eq_true hi, Bool.true_and, Bool.true_and]

/-! ## Queueing a raw character -/

theorem State.txFull_iff (s : State) : s.txFull = true ↔ s.txfr = true ∨ 16 ≤ s.txq.length := by
  rw [State.txFull, Bool.or_eq_true, decide_eq_true_iff]
  rfl

theorem State.queueChar_of_closed {s : State} (hen : s.en = false) (v : Byte) :
    s.queueChar v = { s with sticky := s.sticky ||| 0x0100#14 } := by
  rw [State.queueChar, hen]
  rfl

theorem State.queueChar_of_full {s : State} (hen : s.en = true) (hfull : s.txFull = true) (v : Byte) :
    s.queueChar v = { s with sticky := s.sticky ||| 0x0200#14 } := by
  rw [State.queueChar, hen, hfull]
  rfl

theorem State.queueChar_of_room {s : State} (hen : s.en = true) (hroom : s.txFull = false) (v : Byte) :
    s.queueChar v = { s with txq := s.txq ++ [v] } := by
  rw [State.queueChar, hen, hroom]
  rfl

/-! ## The words that RXCHAR and OOB show -/

/-- An entry as RXCHAR shows it (R37). -/
theorem Entry.word_fields (e : Entry) :
    e.word.extractLsb' 0 8 = e.b ∧ e.word.getLsbD 8 = e.pe ∧ e.word.getLsbD 9 = e.se ∧ e.word.getLsbD 10 = e.brk ∧
      e.word.getLsbD 11 = e.gap ∧ e.word.extractLsb' 12 19 = 0#19 ∧ e.word.getLsbD 31 = true := by
  refine ⟨?byte, ?pe, ?se, ?brk, ?gap, ?zeros, ?valid⟩
  case byte => rw [Entry.word, BitVec.extractLsb'_append_eq_of_add_le (by decide), BitVec.extractLsb'_eq_self]
  case zeros =>
    rw [Entry.word, BitVec.extractLsb'_append_eq_of_le (by decide), BitVec.extractLsb'_append_eq_of_le (by decide),
      BitVec.extractLsb'_append_eq_of_le (by decide), BitVec.extractLsb'_append_eq_of_le (by decide),
      BitVec.extractLsb'_append_eq_of_le (by decide), BitVec.extractLsb'_append_eq_of_add_le (by decide),
      BitVec.extractLsb'_eq_self]
  all_goals
    simp only [Entry.word, BitVec.getLsbD_append, BitVec.getLsbD_ofBool]
    simp

/-- An out-of-band record as OOB shows it (R39). -/
theorem OobRec.word_fields (r : OobRec) :
    r.word.extractLsb' 0 8 = r.byte ∧ r.word.getLsbD 8 = r.escd ∧ r.word.extractLsb' 9 22 = 0#22 ∧
      r.word.getLsbD 31 = true := by
  refine ⟨?byte, ?escd, ?zeros, ?valid⟩
  case byte => rw [OobRec.word, BitVec.extractLsb'_append_eq_of_add_le (by decide), BitVec.extractLsb'_eq_self]
  case zeros =>
    rw [OobRec.word, BitVec.extractLsb'_append_eq_of_le (by decide), BitVec.extractLsb'_append_eq_of_le (by decide),
      BitVec.extractLsb'_append_eq_of_add_le (by decide), BitVec.extractLsb'_eq_self]
  all_goals
    simp only [OobRec.word, BitVec.getLsbD_append, BitVec.getLsbD_ofBool]
    simp

/-! ## The reads that pop -/

/-- In frame mode, or with RXFIFO empty, an RXCHAR read shows 0 and pops nothing. -/
theorem execRdRxchar_of_nothing {s : State} (h : s.frmen = true ∨ s.rxfifo = []) :
    execRdRxchar 0#2 .b4 s = s.answer 0#32 := by
  rw [execRdRxchar, State.regAccess_ok]
  split
  · rfl
  next hraw =>
    have hempty : s.rxfifo = [] := h.resolve_left hraw
    rw [hempty]

theorem execRdRxchar_of_raw {s : State} (hraw : s.frmen = false) {e : Entry} {rest : List Entry}
    (hf : s.rxfifo = e :: rest) : execRdRxchar 0#2 .b4 s = State.answer { s with rxfifo := rest } e.word := by
  rw [execRdRxchar, State.regAccess_ok, hraw, if_neg Bool.false_ne_true, hf]

theorem execRdOob_of_empty {s : State} (h : s.oobq = []) : execRdOob 0#2 .b4 s = s.answer 0#32 := by
  rw [execRdOob, State.regAccess_ok, h]

theorem execRdOob_of_cons {s : State} {r : OobRec} {rest : List OobRec} (h : s.oobq = r :: rest) :
    execRdOob 0#2 .b4 s = State.answer { s with oobq := rest } r.word := by
  rw [execRdOob, State.regAccess_ok, h]

end Sys2Proof.Machine

namespace Sys2Proof.Proofs

open Sys2Proof.Machine

/-- Settles O14, register by register (`exec_rdReg_ok`). -/
theorem plainReadsReturnTheirRegister : Obligations.PlainReadsReturnTheirRegister := by
  unfold Obligations.PlainReadsReturnTheirRegister
  refine ⟨fun s => ?value, fun s r lo size hbad => ?bad⟩
  case value =>
    simp only [exec_rdReg_ok, State.regValue, State.chkaccWord, counterWord_eq, Config.idValue, and_self, implies_true]
  case bad => exact State.regAccess_bad hbad s r _

/-- Settles O19: each write is one update behind the checks of a register access. -/
theorem unlockedWritesStoreOrClear : Obligations.UnlockedWritesStoreOrClear := by
  unfold Obligations.UnlockedWritesStoreOrClear
  simp only [exec, execWrIen, execWrRxto, execWrStatus, execWrChkacc, execWrCntok, execWrCntchk, execWrCntfrm, execWrCntdisc]
  refine ⟨fun s w => ?stored, fun s lo size w hbad => ?storedBad, fun s w => ?cleared, fun s lo size w hbad => ?clearedBad⟩
  case stored => exact ⟨rfl, rfl, _, rfl, rfl, fun i hi => clearEvents_getLsbD s w hi⟩
  case storedBad => simp only [State.regAccess_bad hbad, Reg.offset_eq_add, Reg.index, and_self]
  case cleared => exact ⟨rfl, rfl, rfl, rfl, rfl⟩
  case clearedBad => simp only [State.regAccess_bad hbad, Reg.offset_eq_add, Reg.index, and_self]

/-- Settles O20, by the three ways of `queueChar`. -/
theorem txcharWriteQueuesOneCharacter : Obligations.TxcharWriteQueuesOneCharacter := by
  unfold Obligations.TxcharWriteQueuesOneCharacter
  simp only [exec, execWrTxchar, State.regAccess_ok]
  refine ⟨fun s w hen => ?closed, fun s w hen hfull => ?full, fun s w hen hfr hroom => ?room,
    fun s lo size w hbad => ?bad⟩
  case closed => rw [State.queueChar_of_closed hen]; rfl
  case full => rw [State.queueChar_of_full hen (s.txFull_iff.2 hfull)]; rfl
  case room =>
    have hroom' : s.txFull = false := by
      rw [Bool.eq_false_iff, ne_eq, s.txFull_iff, hfr]
      exact not_or.2 ⟨Bool.false_ne_true, by omega⟩
    rw [State.queueChar_of_room hen hroom']
    rfl
  case bad => simp only [State.regAccess_bad hbad, Reg.offset_eq_add, Reg.index]

/-- Settles O21: the word of the popped entry, field by field. -/
theorem rxcharReadPopsInRawMode : Obligations.RxcharReadPopsInRawMode := by
  unfold Obligations.RxcharReadPopsInRawMode
  simp only [exec]
  refine ⟨fun s h => ?nothing, fun s e rest hraw hf => ?pops, fun s lo size hbad => ?bad⟩
  case nothing => rw [execRdRxchar_of_nothing h]; rfl
  case pops => exact ⟨e.word, execRdRxchar_of_raw hraw hf, e.word_fields⟩
  case bad => simp only [execRdRxchar, State.regAccess_bad hbad, Reg.offset_eq_add, Reg.index]

/-- Settles O22: the word of the popped record, field by field. -/
theorem oobReadPopsTheOldestRecord : Obligations.OobReadPopsTheOldestRecord := by
  unfold Obligations.OobReadPopsTheOldestRecord
  simp only [exec]
  refine ⟨fun s h => ?empty, fun s r rest h => ?pops, fun s lo size hbad => ?bad⟩
  case empty => rw [execRdOob_of_empty h]; rfl
  case pops => exact ⟨r.word, execRdOob_of_cons h, r.word_fields⟩
  case bad => simp only [execRdOob, State.regAccess_bad hbad, Reg.offset_eq_add, Reg.index]

end Sys2Proof.Proofs

/-! SUPPORT. The commands (41_commands.md R151 to R161), one equation per outcome, and the statements about them. -/

namespace Sys2Proof.Machine

open Sys2Proof.Safety

/-! ## Refusals (R92, R153, R161) -/

theorem State.complete_signal_cmderr (s : State) :
    (s.signal .cmderr).complete = .next { s with sticky := s.sticky ||| 0x0100#14, resp := .done } := rfl

theorem State.complete_signal_busyerr (s : State) :
    (s.signal .busyerr).complete = .next { s with sticky := s.sticky ||| 0x0200#14, resp := .done } := rfl

/-! ## SRST (R152) -/

theorem execSrst_eq_softReset (s : State) : execSrst s = s.softReset.complete := rfl

/-- While open, everything close drops goes with what SRST clears. -/
theorem State.softReset_eq_of_open {s : State} (hen : s.en = true) :
    s.softReset = { s with
      ctrl := s.ctrl &&& 0xFFFFFFFE#32, sticky := 0#14, frmCause := 0#4, rxinfo := 0#32, acc := 0#16
      cntOk := 0#16, cntChk := 0#16, cntFrm := 0#16, cntDisc := 0#16
      rxfifo := [], gapPend := false, replay := [], oobq := [], fstate := .hunt, escp := false
      cand := Candidate.cleared, txq := [], txsh := none, txfr := false } := by
  rw [State.softReset_of_open hen, State.softReset_of_closed s.close_en]
  rfl

/-! ## TXFRAME (R153) -/

/-- A length value does not fit when there is a length field and the value lies outside its range (R111). -/
theorem State.lenFits_eq_false_iff (s : State) (n : Nat) :
    s.lenFits n = false ↔ 0 < s.lenw ∧ (s.lenValue n < 0 ∨ 2 ^ (8 * s.lenw) - 1 < s.lenValue n) := by
  simp only [State.lenFits, Bool.or_eq_false_iff, Bool.and_eq_false_iff, beq_eq_false_iff_ne, decide_eq_false_iff_not,
    not_le, Nat.pos_iff_ne_zero]

theorem State.txframeIllegal_iff (s : State) (n : Nat) :
    s.txframeIllegal n = true ↔ s.en = false ∨ n < 1 ∨ 256 < n ∨
      (0 < s.lenw ∧ ((s.ovh : Int) + n - s.lenAdj < 0 ∨ 2 ^ (8 * s.lenw) - 1 < (s.ovh : Int) + n - s.lenAdj)) := by
  rw [← s.lenValue_eq, ← s.lenFits_eq_false_iff]
  simp only [State.txframeIllegal, Bool.or_eq_true, Bool.not_eq_true', decide_eq_true_iff, or_assoc]
  rfl

/-- The transmitter is not idle while it holds a byte or a frame (R193). -/
theorem State.txIdle_eq_false_iff (s : State) :
    s.txIdle = false ↔ s.txq ≠ [] ∨ s.txsh ≠ none ∨ s.txfr = true := by
  simp only [State.txIdle, State.txBusy, Bool.and_eq_false_iff, Bool.not_eq_false', Bool.or_eq_true,
    Bool.not_eq_true', List.isEmpty_eq_false_iff, Option.isSome_iff_ne_none, or_assoc]

section Txframe

variable {s : State} {n : Half}

theorem execTxframe_of_illegal (h : s.txframeIllegal n.toNat = true) (a : Byte) :
    execTxframe a n s = (s.signal .cmderr).complete := by
  rw [execTxframe, if_pos h]

theorem execTxframe_of_busy (hlegal : s.txframeIllegal n.toNat = false) (h : s.txIdle = false) (a : Byte) :
    execTxframe a n s = (s.signal .busyerr).complete := by
  rw [execTxframe, hlegal, h]
  rfl

/-- The payload is read once, and its wire frame is the queue (R192). -/
theorem execTxframe_of_payload (hlegal : s.txframeIllegal n.toNat = false) (hidle : s.txIdle = true) {p : List Byte}
    (h : s.mem.readBytes 0x100 n.toNat = .ok p) (a : Byte) :
    execTxframe a n s = State.complete { s with txq := s.wireFrame a p, txfr := true } := by
  rw [execTxframe, hlegal, hidle, Config.txbufBase, h]
  rfl

theorem execTxframe_of_unwritten (hlegal : s.txframeIllegal n.toNat = false) (hidle : s.txIdle = true) {off : Nat}
    (h : s.mem.readBytes 0x100 n.toNat = .error off) (a : Byte) :
    execTxframe a n s = .fault (.unwrittenByte off) := by
  rw [execTxframe, hlegal, hidle, Config.txbufBase, h]
  rfl

end Txframe

/-! ## RXRELEASE and RESYNC (R155, R156) -/

section Decoder

variable {s : State}

theorem execRxrelease_of_hold (h : s.fstate = .hold) : execRxrelease s = State.complete { s with fstate := .hunt } := by
  rw [execRxrelease, if_pos (beq_iff_eq.2 h)]

theorem execRxrelease_of_not_hold (h : s.fstate ≠ .hold) : execRxrelease s = (s.signal .cmderr).complete := by
  rw [execRxrelease, if_neg (mt beq_iff_eq.1 h)]

theorem execResync_of_hold (h : s.fstate = .hold) : execResync s = (s.signal .cmderr).complete := by
  rw [execResync, if_pos (beq_iff_eq.2 h)]

theorem execResync_of_not_hold (h : s.fstate ≠ .hold) :
    execResync s = State.complete { s with fstate := .hunt, escp := false, cand := Candidate.cleared } := by
  rw [execResync, if_neg (mt beq_iff_eq.1 h)]

end Decoder

/-! ## The checksum commands (R158 to R160) -/

theorem State.update_of_xor {s : State} (h : s.crcAlg = false) (acc : Half) (b : Byte) :
    s.update acc b = acc ^^^ b.setWidth 16 := by
  rw [State.update, h]
  rfl

theorem State.update_of_crc {s : State} (h : s.crcAlg = true) (acc : Half) (b : Byte) :
    s.update acc b = s.updateCrc acc b := by
  rw [State.update, h]
  rfl

/-! CHKFEEDBUF reads its range only when the range lies in TXBUF (R160). -/

section Chkfeedbuf

variable {s : State} {start : Byte} {n : Half}

theorem execChkfeedbuf_of_past_end (h : 256 < start.toNat + n.toNat) :
    execChkfeedbuf start n s = (s.signal .cmderr).complete := if_pos h

theorem execChkfeedbuf_of_bytes (hrange : start.toNat + n.toNat ≤ 256) {p : List Byte}
    (h : s.mem.readBytes (0x100 + start.toNat) n.toNat = .ok p) :
    execChkfeedbuf start n s = State.complete { s with acc := s.updates s.acc p } := by
  rw [execChkfeedbuf, Config.bufSize, if_neg (Nat.not_lt.2 hrange), Config.txbufBase, h]

theorem execChkfeedbuf_of_unwritten (hrange : start.toNat + n.toNat ≤ 256) {off : Nat}
    (h : s.mem.readBytes (0x100 + start.toNat) n.toNat = .error off) :
    execChkfeedbuf start n s = .fault (.unwrittenByte off) := by
  rw [execChkfeedbuf, Config.bufSize, if_neg (Nat.not_lt.2 hrange), Config.txbufBase, h]

end Chkfeedbuf

end Sys2Proof.Machine

namespace Sys2Proof.Proofs

open Sys2Proof.Machine Sys2Proof.Safety

/-- Settles O10: the two checks as the propositions of R153, then the one read of the payload. -/
theorem txframeChecksThenQueues : Obligations.TxframeChecksThenQueues := by
  unfold Obligations.TxframeChecksThenQueues
  intro s a n
  simp only [exec, ← s.txframeIllegal_iff, ← s.txIdle_eq_false_iff, Bool.not_eq_true, Bool.not_eq_false]
  refine ⟨fun hbad => ?illegal, fun hlegal hbusy => ?busy, fun hlegal hidle p hp hheld => ?queues,
    fun hlegal hidle k hk hnone => ?unwritten⟩
  case illegal => rw [execTxframe_of_illegal hbad, s.complete_signal_cmderr]
  case busy => rw [execTxframe_of_busy hlegal hbusy, s.complete_signal_busyerr]
  case queues => exact execTxframe_of_payload hlegal hidle (hp ▸ Memory.readBytes_ok s.mem _ p hheld) a
  case unwritten =>
    obtain ⟨j, hj, hjnone, herr⟩ := Memory.readBytes_unwritten hk hnone
    exact ⟨j, hj, hjnone, execTxframe_of_unwritten hlegal hidle herr a⟩

/-- Settles O13: INITVAL and UPDATE by the algorithm, and the one read of CHKFEEDBUF's range. -/
theorem checksumCommandsActOnAcc : Obligations.ChecksumCommandsActOnAcc := by
  unfold Obligations.ChecksumCommandsActOnAcc
  simp only [exec]
  refine ⟨fun s => ?init, fun s d hxor => ?xor, fun s d hcrc => ?crc, fun s start n hpast => ?past,
    fun s start n p hrange hp hheld => ?bytes, fun s start n k hrange hk hnone => ?unwritten⟩
  case init => rfl -- INITVAL, with its fields of PROF2 and CRC0 written out
  case xor => rw [execChkfeed, State.update_of_xor hxor]; rfl
  case crc => rw [execChkfeed, State.update_of_crc hcrc]; rfl
  case past => rw [execChkfeedbuf_of_past_end hpast, s.complete_signal_cmderr]
  case bytes => exact execChkfeedbuf_of_bytes hrange (hp ▸ Memory.readBytes_ok s.mem _ p hheld)
  case unwritten =>
    obtain ⟨j, hj, hjnone, herr⟩ := Memory.readBytes_unwritten hk hnone
    exact ⟨j, hj, hjnone, execChkfeedbuf_of_unwritten hrange herr⟩

/-- Settles O8: NOP is its completion alone, an undefined opcode the event CMDERR. -/
theorem nopAndUndefinedOpcodesAct : Obligations.NopAndUndefinedOpcodesAct := by
  unfold Obligations.NopAndUndefinedOpcodesAct
  exact fun s => ⟨rfl, fun _ => s.complete_signal_cmderr⟩

/-- Settles O9, by the two forms of the state that SRST leaves. -/
theorem softResetClearsAndKeeps : Obligations.SoftResetClearsAndKeeps := by
  unfold Obligations.SoftResetClearsAndKeeps
  simp only [exec, execSrst_eq_softReset]
  refine fun s => ⟨fun hopen => ?opened, fun hclosed => ?closed⟩
  case opened => rw [State.softReset_eq_of_open hopen]; rfl
  case closed => rw [State.softReset_of_closed hclosed]; rfl

/-- Settles O11: `execTxabort` is this update. -/
theorem txabortEmptiesTheQueue : Obligations.TxabortEmptiesTheQueue := by
  unfold Obligations.TxabortEmptiesTheQueue
  exact fun _ => rfl

/-- Settles O12, by FSTATE: RXRELEASE needs HOLD, RESYNC anything else, RXFLUSH nothing. -/
theorem receiveCommandsActOnTheDecoder : Obligations.ReceiveCommandsActOnTheDecoder := by
  unfold Obligations.ReceiveCommandsActOnTheDecoder
  exact fun s => ⟨execRxrelease_of_hold, execRxrelease_of_not_hold, execResync_of_hold, execResync_of_not_hold, rfl⟩

end Sys2Proof.Proofs

/-! SUPPORT. ACC stands apart from the frame engines (42_checksum.md R180): an operation that neither reads nor writes ACC does
the same on a state with another ACC. The lemmas follow the operations of FRX, RXT, LINE and TXU in the order of the model. -/

namespace Sys2Proof.Machine

/-! ## Operations that ignore ACC -/

/-- The state with another ACC. -/
def State.withAcc (s : State) (x : Half) : State := { s with acc := x }

/-- The operation neither reads ACC nor writes it (R180). -/
def IgnoresAcc (f : State → State) : Prop := ∀ (s : State) (x : Half), f (s.withAcc x) = (f s).withAcc x

theorem IgnoresAcc.apply {f : State → State} (hf : IgnoresAcc f) {s t : State} {x : Half} (h : t = s.withAcc x) :
    f t = (f s).withAcc x := h ▸ hf s x

/-- A branch whose condition does not read ACC. -/
theorem withAcc_ite {c : Prop} [Decidable c] {s t s' t' : State} {x : Half} (hs : s' = s.withAcc x) (ht : t' = t.withAcc x) :
    (if c then s' else t') = (if c then s else t).withAcc x := by
  split
  · exact hs
  · exact ht

/-! ## The transmitter and the character receiver -/

theorem State.signalIf_ignoresAcc (c : Bool) (e : Event) : IgnoresAcc (·.signalIf c e) := fun _ _ => withAcc_ite rfl rfl

theorem State.takeChar_ignoresAcc (e : Entry) : IgnoresAcc (·.takeChar e) := fun _ _ =>
  withAcc_ite rfl ((signalIf_ignoresAcc e.brk .brk).apply ((signalIf_ignoresAcc e.se .stoperr).apply
    ((signalIf_ignoresAcc e.pe .parerr).apply rfl)))

theorem State.arrive_ignoresAcc (e : Entry) (src : CharSource) : IgnoresAcc (·.arrive e src) := by
  intro s x
  refine withAcc_ite rfl ?_
  have hloop : (s.withAcc x).loop = s.loop := rfl
  rw [hloop]
  cases src <;> cases s.loop
  case ext.false => exact takeChar_ignoresAcc e s x
  case loopback.true => exact takeChar_ignoresAcc e s x
  all_goals rfl

theorem State.lineStep_ignoresAcc (e : Entry) : IgnoresAcc (·.lineStep e) := fun s x =>
  withAcc_ite (arrive_ignoresAcc e .ext s x) rfl

theorem State.loadStep_ignoresAcc : IgnoresAcc State.loadStep := fun _ _ => withAcc_ite rfl rfl

theorem State.endFrame_ignoresAcc : IgnoresAcc State.endFrame := fun _ _ => withAcc_ite rfl rfl

theorem State.emitStep_ignoresAcc : IgnoresAcc State.emitStep := by
  intro s x
  have hen : (s.withAcc x).en = s.en := rfl
  have htxsh : (s.withAcc x).txsh = s.txsh := rfl
  rw [State.emitStep, State.emitStep, hen, htxsh]
  cases s.en with
  | false => rfl
  | true =>
    cases s.txsh with
    | none => rfl
    | some b => exact endFrame_ignoresAcc.apply (withAcc_ite ((arrive_ignoresAcc _ .loopback).apply rfl) rfl)

/-! ## The decoder -/

theorem State.oob_ignoresAcc (v : Byte) (escd : Bool) : IgnoresAcc (·.oob v escd) := fun _ _ =>
  withAcc_ite rfl (withAcc_ite rfl rfl)

theorem State.discardByte_ignoresAcc (v : Byte) (escd : Bool) : IgnoresAcc (·.discardByte v escd) := fun _ _ =>
  (oob_ignoresAcc v escd).apply rfl

theorem State.autoNak_ignoresAcc : IgnoresAcc State.autoNak := fun _ _ => withAcc_ite rfl rfl

theorem State.checksumError_ignoresAcc : IgnoresAcc State.checksumError := fun _ _ =>
  withAcc_ite (autoNak_ignoresAcc.apply rfl) rfl

theorem report_ignoresAcc (k : FailCause) : IgnoresAcc (Safety.report · k) := fun s x =>
  withAcc_ite (State.checksumError_ignoresAcc s x) rfl

theorem State.fail_ignoresAcc (k : FailCause) (pb : List Entry) : IgnoresAcc (·.fail k pb) := by
  have hrequeue : IgnoresAcc fun t =>
      (if t.stuffed then t else { t with replay := t.cand.ents.tail ++ pb ++ t.replay }).toHunt := fun _ _ =>
    have htoHunt : IgnoresAcc State.toHunt := fun _ _ => rfl
    htoHunt.apply (withAcc_ite rfl rfl)
  exact fun s x => hrequeue.apply (report_ignoresAcc k s x)

theorem State.start_ignoresAcc : IgnoresAcc State.start := fun _ _ => rfl

theorem State.verify_ignoresAcc : IgnoresAcc State.verify := fun s x =>
  withAcc_ite rfl (fail_ignoresAcc .checksum [] s x)

theorem State.lenByte_ignoresAcc (v : Byte) : IgnoresAcc (·.lenByte v) := fun _ _ =>
  withAcc_ite (withAcc_ite ((fail_ignoresAcc .length []).apply rfl) rfl) rfl

theorem State.payByte_ignoresAcc (v : Byte) : IgnoresAcc (·.payByte v) := by
  intro s x
  have hcand : (s.withAcc x).cand = s.cand := rfl
  simp only [State.payByte, hcand]
  cases s.cand.nexp with
  | none => exact withAcc_ite (fail_ignoresAcc .overlong [] s x) rfl
  | some n => exact withAcc_ite rfl rfl

theorem State.chkByte_ignoresAcc (v : Byte) : IgnoresAcc (·.chkByte v) := fun _ _ =>
  withAcc_ite (verify_ignoresAcc.apply rfl) rfl

theorem State.dataByte_ignoresAcc (v : Byte) : IgnoresAcc (·.dataByte v) := by
  intro s x
  have hfstate : (s.withAcc x).fstate = s.fstate := rfl
  simp only [State.dataByte, hfstate]
  cases s.fstate with
  | len => exact lenByte_ignoresAcc v s x
  | pay => exact payByte_ignoresAcc v s x
  | trl => exact fail_ignoresAcc .endMark [] s x
  | chk => exact chkByte_ignoresAcc v s x
  | addr | hunt | sync | hold => rfl

theorem State.plainHunt_ignoresAcc (e : Entry) : IgnoresAcc (·.plainHunt e) := fun s x =>
  withAcc_ite rfl (withAcc_ite (withAcc_ite rfl rfl) (discardByte_ignoresAcc e.b false s x))

theorem State.plainSync_ignoresAcc (e : Entry) : IgnoresAcc (·.plainSync e) := fun s x =>
  have hputBack : IgnoresAcc fun t => { t with cand := Candidate.cleared, fstate := .hunt, replay := e :: t.replay } :=
    fun _ _ => rfl
  withAcc_ite (hputBack.apply (discardByte_ignoresAcc s.sync0 false s x)) rfl

theorem State.plainCand_ignoresAcc (e : Entry) : IgnoresAcc (·.plainCand e) := fun s x =>
  withAcc_ite (fail_ignoresAcc .gap [e] s x)
    (withAcc_ite (fail_ignoresAcc .char [e] s x) ((dataByte_ignoresAcc e.b).apply rfl))

theorem State.plainStep_ignoresAcc (e : Entry) : IgnoresAcc (·.plainStep e) := by
  intro s x
  have hfstate : (s.withAcc x).fstate = s.fstate := rfl
  simp only [State.plainStep, hfstate]
  cases s.fstate with
  | hunt => exact plainHunt_ignoresAcc e s x
  | sync => exact plainSync_ignoresAcc e s x
  | addr | len | pay | trl | chk => exact plainCand_ignoresAcc e s x
  | hold => rfl

theorem State.outside_ignoresAcc (t : Token) : IgnoresAcc (·.outside t) := by
  intro s x
  cases t with
  | start => rfl
  | data v escd => exact discardByte_ignoresAcc v escd s x
  | endMark => exact discardByte_ignoresAcc s.etxb true s x
  | badEsc v => exact discardByte_ignoresAcc v true s x

theorem State.inCandidate_ignoresAcc (t : Token) : IgnoresAcc (·.inCandidate t) := by
  intro s x
  cases t with
  | start => exact start_ignoresAcc.apply (fail_ignoresAcc .restart [] s x)
  | data v escd => exact dataByte_ignoresAcc v s x
  | badEsc v => exact fail_ignoresAcc .escape [] s x
  | endMark =>
    exact withAcc_ite rfl
      (withAcc_ite (withAcc_ite (fail_ignoresAcc .length [] s x) rfl) (fail_ignoresAcc .endMark [] s x))

theorem State.stuffedGap_ignoresAcc : IgnoresAcc State.stuffedGap := fun s x =>
  withAcc_ite (fail_ignoresAcc .gap [] s x) (withAcc_ite rfl rfl)

theorem State.stuffedErr_ignoresAcc : IgnoresAcc State.stuffedErr := fun s x =>
  have hreset : IgnoresAcc fun t => { t with escp := false }.discard 1 := fun _ _ => rfl
  hreset.apply (withAcc_ite (fail_ignoresAcc .char [] s x) (withAcc_ite rfl rfl))

theorem State.stuffedByte_ignoresAcc (b : Byte) : IgnoresAcc (·.stuffedByte b) := by
  intro s x
  have htoken : (s.withAcc x).token b = s.token b := rfl
  simp only [State.stuffedByte, htoken]
  cases s.token b with
  | none => rfl
  | some t => exact withAcc_ite ((inCandidate_ignoresAcc t).apply rfl) ((outside_ignoresAcc t).apply rfl)

theorem State.stuffedStep_ignoresAcc (e : Entry) : IgnoresAcc (·.stuffedStep e) := by
  intro s x
  have hgap : (s.withAcc x).afterGap e = (s.afterGap e).withAcc x := withAcc_ite (stuffedGap_ignoresAcc s x) rfl
  exact withAcc_ite (stuffedErr_ignoresAcc.apply hgap) ((stuffedByte_ignoresAcc e.b).apply hgap)

theorem State.handleEntry_ignoresAcc (e : Entry) : IgnoresAcc (·.handleEntry e) := fun s x =>
  withAcc_ite (stuffedStep_ignoresAcc e s x) (plainStep_ignoresAcc e s x)

theorem State.frxStep_ignoresAcc : IgnoresAcc State.frxStep := by
  intro s x
  refine withAcc_ite ?_ rfl
  have hreplay : (s.withAcc x).replay = s.replay := rfl
  have hrxfifo : (s.withAcc x).rxfifo = s.rxfifo := rfl
  simp only [State.nextEntry, hreplay, hrxfifo]
  cases s.replay with
  | cons e rest => exact (handleEntry_ignoresAcc e).apply rfl
  | nil =>
    cases s.rxfifo with
    | cons e rest => exact (handleEntry_ignoresAcc e).apply rfl
    | nil => rfl

theorem State.rxtStep_ignoresAcc : IgnoresAcc State.rxtStep := fun s x =>
  have hclear : IgnoresAcc fun t => { t with cand := Candidate.cleared, fstate := .hunt } := fun _ _ => rfl
  withAcc_ite
    (withAcc_ite (hclear.apply (discardByte_ignoresAcc s.sync0 false s x)) (fail_ignoresAcc .timeout [] s x)) rfl

/-! ## The agents and TXFRAME -/

theorem agentMove_ignoresAcc {m : Move} (hm : m ≠ .releaseReset) : IgnoresAcc (agentMove m) := by
  intro s x
  cases m with
  | host w => rfl
  | line e => exact withAcc_ite rfl (State.lineStep_ignoresAcc e s x)
  | load => exact withAcc_ite rfl (State.loadStep_ignoresAcc s x)
  | emit => exact withAcc_ite rfl (State.emitStep_ignoresAcc s x)
  | frx => exact withAcc_ite rfl (State.frxStep_ignoresAcc s x)
  | rxt => exact withAcc_ite rfl (State.rxtStep_ignoresAcc s x)
  | assertReset => rfl
  | releaseReset => exact absurd rfl hm

theorem State.stuff_withAcc (s : State) (x : Half) (bs : List Byte) : (s.withAcc x).stuff bs = s.stuff bs := by
  induction bs with
  | nil => rfl
  | cons v rest ih =>
    rw [State.stuff_cons, State.stuff_cons, ih]
    rfl

theorem State.wireFrame_withAcc (s : State) (x : Half) (a : Byte) (p : List Byte) :
    (s.withAcc x).wireFrame a p = s.wireFrame a p := by
  rw [State.wireFrame, State.wireFrame, State.stuff_withAcc, State.stuff_withAcc]
  rfl

/-- The checks of TXFRAME, its payload and its wire frame are the same with another ACC. -/
theorem execTxframe_withAcc {a : Byte} {n : Half} {s t : State} (h : execTxframe a n s = .next t) (x : Half) :
    execTxframe a n (s.withAcc x) = .next (t.withAcc x) := by
  have completes {u : State} (hu : u.complete = .next t) : (u.withAcc x).complete = .next (t.withAcc x) := by
    cases hu
    rfl
  cases hill : s.txframeIllegal n.toNat with
  | true =>
    rw [execTxframe_of_illegal hill] at h
    exact (execTxframe_of_illegal (s := s.withAcc x) hill a).trans (completes h)
  | false =>
    cases hidle : s.txIdle with
    | false =>
      rw [execTxframe_of_busy hill hidle] at h
      exact (execTxframe_of_busy (s := s.withAcc x) hill hidle a).trans (completes h)
    | true =>
      cases hread : s.mem.readBytes 0x100 n.toNat with
      | ok p =>
        rw [execTxframe_of_payload hill hidle hread] at h
        rw [execTxframe_of_payload (s := s.withAcc x) hill hidle hread, s.wireFrame_withAcc]
        exact completes h
      | error off =>
        rw [execTxframe_of_unwritten hill hidle hread] at h
        cases h

end Sys2Proof.Machine

namespace Sys2Proof.Proofs

open Sys2Proof.Machine

/-- Settles O32, move by move (`agentMove_ignoresAcc`), and by the branches of TXFRAME. -/
theorem frameEnginesIgnoreAcc : Obligations.FrameEnginesIgnoreAcc := by
  unfold Obligations.FrameEnginesIgnoreAcc
  exact ⟨fun _ s x hm => agentMove_ignoresAcc hm s x, fun _ _ _ _ x h => execTxframe_withAcc h x⟩

end Sys2Proof.Proofs

/-! SUPPORT. The checksum engine as injections (42_checksum.md R171 to R174, R179): with the x^0 coefficient in the polynomial a
shift of the CRC register loses nothing, so UPDATE is injective in the register and in the byte, and two checksums are equal only
where the registers before FINAL are. -/

namespace Sys2Proof.Machine

open Sys2Proof.Safety

/-! ## The shifts of the CRC register (R172) -/

theorem crcShift_eq (poly r : Half) : crcShift poly r = r <<< 1 ^^^ if r.msb then poly else 0#16 := by
  rw [crcShift]
  cases r.msb
  · exact BitVec.xor_zero.symm
  · rfl

theorem eq_of_shiftLeft_one {r r' : Half} (hmsb : r.msb = r'.msb) (h : r <<< 1 = r' <<< 1) : r = r' := by
  refine BitVec.eq_of_getLsbD_eq fun i hi => ?_
  by_cases htop : i = 15
  · rw [htop]
    simpa only [BitVec.msb_eq_getLsbD_last] using hmsb
  · have hbit := congrArg (·.getLsbD (i + 1)) h
    have hlt : i + 1 < 16 := by omega
    simpa only [BitVec.getLsbD_shiftLeft, hlt, decide_true, Bool.true_and, Nat.not_lt.2 (Nat.le_add_left 1 i), decide_false,
      Bool.not_false, Nat.add_sub_cancel] using hbit

section Poly

variable {poly : Half} (h : poly.getLsbD 0 = true)

include h

/-- The bit shifted out comes back in as bit 0. -/
theorem crcShift_getLsbD_zero (r : Half) : (crcShift poly r).getLsbD 0 = r.msb := by
  rw [crcShift_eq, BitVec.getLsbD_xor, BitVec.getLsbD_shiftLeft]
  cases r.msb
  · simp only [Bool.false_eq_true, if_false, BitVec.getLsbD_zero]
    rfl
  · simp only [if_true, h]
    rfl

theorem crcShift_injective : Function.Injective (crcShift poly) := by
  intro r r' he
  have hmsb : r.msb = r'.msb := by rw [← crcShift_getLsbD_zero h r, he, crcShift_getLsbD_zero h]
  rw [crcShift_eq, crcShift_eq, hmsb, BitVec.xor_left_inj] at he
  exact eq_of_shiftLeft_one hmsb he

theorem crcShifts_injective (k : Nat) : Function.Injective (crcShifts poly k) := by
  induction k with
  | zero => exact Function.injective_id
  | succ k ih => exact ih.comp (crcShift_injective h)

end Poly

/-! ## UPDATE (R171 to R173) -/

theorem reverse_injective {w : Nat} : Function.Injective (BitVec.reverse (w := w)) :=
  Function.LeftInverse.injective fun _ => BitVec.reverse_reverse_eq

/-- A byte as the CRC register takes it in: reflected where REFIN says so, in bits 15:8. -/
def State.crcByte (s : State) (b : Byte) : Half := (if s.refIn then b.reverse else b).setWidth 16 <<< 8

theorem State.updateCrc_eq (s : State) (acc : Half) (b : Byte) :
    s.updateCrc acc b = crcShifts s.poly 8 (acc ^^^ s.crcByte b) := rfl

theorem highByte_shiftLeft (b : Byte) : Half.highByte (b.setWidth 16 <<< 8) = b := by
  refine BitVec.eq_of_getLsbD_eq fun i hi => ?_
  have hlt : 8 + i < 16 := by omega
  simp [Half.highByte, hi, hlt]

theorem State.crcByte_injective (s : State) : Function.Injective s.crcByte := by
  intro b c he
  have hin : (if s.refIn then b.reverse else b) = if s.refIn then c.reverse else c := by
    rw [← highByte_shiftLeft (if s.refIn then b.reverse else b), ← highByte_shiftLeft (if s.refIn then c.reverse else c)]
    exact congrArg Half.highByte he
  cases hr : s.refIn with
  | false => simpa only [hr, Bool.false_eq_true, if_false] using hin
  | true => exact reverse_injective (by simpa only [hr, if_true] using hin)

section Update

variable {s : State} (h : s.crcAlg = false ∨ s.poly.getLsbD 0 = true)

include h

theorem State.update_acc_injective (b : Byte) : Function.Injective (s.update · b) := by
  intro x y he
  dsimp only at he
  cases hcrc : s.crcAlg with
  | false =>
    rw [State.update_of_xor hcrc, State.update_of_xor hcrc] at he
    exact (BitVec.xor_left_inj _).1 he
  | true =>
    have hpoly : s.poly.getLsbD 0 = true := h.resolve_left (by simp [hcrc])
    rw [State.update_of_crc hcrc, State.update_of_crc hcrc, State.updateCrc_eq, State.updateCrc_eq] at he
    exact (BitVec.xor_left_inj _).1 (crcShifts_injective hpoly 8 he)

theorem State.update_byte_injective (acc : Half) : Function.Injective (s.update acc) := by
  intro b c he
  cases hcrc : s.crcAlg with
  | false =>
    rw [State.update_of_xor hcrc, State.update_of_xor hcrc] at he
    have hlow : b.setWidth 16 = c.setWidth 16 := (BitVec.xor_right_inj _).1 he
    simpa using congrArg (BitVec.setWidth 8) hlow
  | true =>
    have hpoly : s.poly.getLsbD 0 = true := h.resolve_left (by simp [hcrc])
    rw [State.update_of_crc hcrc, State.update_of_crc hcrc, State.updateCrc_eq, State.updateCrc_eq] at he
    exact s.crcByte_injective ((BitVec.xor_right_inj _).1 (crcShifts_injective hpoly 8 he))

theorem State.updates_acc_injective (bs : List Byte) : Function.Injective (s.updates · bs) := by
  induction bs with
  | nil => exact Function.injective_id
  | cons b rest ih => exact ih.comp (State.update_acc_injective h b)

theorem State.updates_ne_of_byte_ne (acc : Half) (before after : List Byte) {b c : Byte} (hne : b ≠ c) :
    s.updates acc (before ++ [b] ++ after) ≠ s.updates acc (before ++ [c] ++ after) := by
  intro he
  simp only [State.updates, List.foldl_append, List.foldl_cons, List.foldl_nil] at he
  exact hne (State.update_byte_injective h _ (State.updates_acc_injective h after he))

end Update

/-! ## FINAL (R174) -/

theorem State.final_injective_of_crc {s : State} (h : s.crcAlg = true) : Function.Injective s.final := by
  intro x y he
  rw [State.final, State.final, if_pos h, if_pos h, BitVec.xor_left_inj] at he
  cases hr : s.refOut with
  | false => simpa only [hr, Bool.false_eq_true, if_false] using he
  | true => exact reverse_injective (by simpa only [hr, if_true] using he)

theorem State.final_byte_of_xor {s : State} (h : s.crcAlg = false) (d : Byte) : s.final (d.setWidth 16) = d.setWidth 16 := by
  have hmask : (0x00FF#16 : Half) = (BitVec.allOnes 8).setWidth 16 := rfl
  rw [State.final, if_neg (by simp [h]), hmask, ← BitVec.setWidth_and, BitVec.and_allOnes]

theorem State.updates_byte_of_xor {s : State} (h : s.crcAlg = false) (d : Byte) (bs : List Byte) :
    s.updates (d.setWidth 16) bs = (bs.foldl (· ^^^ ·) d).setWidth 16 := by
  induction bs generalizing d with
  | nil => rfl
  | cons b rest ih =>
    rw [List.foldl_cons, ← ih, BitVec.setWidth_xor, ← State.update_of_xor h]
    rfl

/-- XOR-8 starts from a byte and takes in bytes, so FINAL finds no bit above 7 to mask. -/
theorem State.checksum_of_xor {s : State} (h : s.crcAlg = false) (bs : List Byte) :
    s.checksum bs = s.updates s.initval bs := by
  rw [State.checksum, State.initval, if_neg (by simp [h]), State.updates_byte_of_xor h, State.final_byte_of_xor h]

theorem State.checksum_eq_iff (s : State) (bs cs : List Byte) :
    s.checksum bs = s.checksum cs ↔ s.updates s.initval bs = s.updates s.initval cs := by
  cases h : s.crcAlg with
  | false => rw [State.checksum_of_xor h, State.checksum_of_xor h]
  | true => exact (State.final_injective_of_crc h).eq_iff

/-! ## CHKINIT, CHKFEED and CHKACC (R175) -/

theorem feedAll_eq (s : State) (acc : Half) (bs : List Byte) :
    feedAll bs { s with acc := acc, resp := .done } = .next { s with acc := s.updates acc bs, resp := .done } := by
  induction bs generalizing acc with
  | nil => rfl
  | cons b rest ih => exact ih (s.update acc b)

theorem State.chkaccWord_low (s : State) : s.chkaccWord.extractLsb' 0 16 = s.final s.acc :=
  BitVec.extractLsb'_append_eq_right

end Sys2Proof.Machine

/-! SUPPORT. The last checksum byte of a candidate (44_receive.md R178, R233): it is stored, and the candidate is verified. -/

namespace Sys2Proof.Machine

theorem State.verify_of_match {s : State}
    (h : s.chkVal s.cand.chk = s.checksum (s.chkRange s.cand.addr s.cand.len s.cand.pay)) : s.verify = s.accept := by
  rw [State.verify, if_pos (beq_iff_eq.2 h)]

theorem State.verify_of_mismatch {s : State}
    (h : s.chkVal s.cand.chk ≠ s.checksum (s.chkRange s.cand.addr s.cand.len s.cand.pay)) :
    s.verify = s.fail .checksum [] := by
  rw [State.verify, if_neg (mt beq_iff_eq.1 h)]

theorem State.dataByte_of_chk {s : State} (h : s.fstate = .chk) (v : Byte) : s.dataByte v = s.chkByte v := by
  rw [State.dataByte, h]

theorem State.chkByte_of_last {s : State} (h : s.cand.chk.length + 1 = s.chkw) (v : Byte) :
    s.chkByte v = State.verify { s with cand := { s.cand with chk := s.cand.chk ++ [v] } } :=
  have hfull : (s.cand.chk ++ [v]).length = s.chkw := List.length_append.trans h
  if_pos (beq_iff_eq.2 hfull)

end Sys2Proof.Machine

namespace Sys2Proof.Proofs

open Sys2Proof.Machine Sys2Proof.Safety

/-- Settles O35: the registers before FINAL differ after the changed byte, and every later byte keeps them apart. -/
theorem oneChangedByteChangesTheChecksum : Obligations.OneChangedByteChangesTheChecksum := by
  unfold Obligations.OneChangedByteChangesTheChecksum
  intro s before after b c hprofile hne heq
  exact State.updates_ne_of_byte_ne hprofile s.initval before after hne ((s.checksum_eq_iff _ _).1 heq)

/-- Settles O34: feeding folds UPDATE over the bytes (`feedAll_eq`), and CHKACC shows FINAL of the result. -/
theorem fedBytesGiveTheFrameChecksum : Obligations.FedBytesGiveTheFrameChecksum := by
  unfold Obligations.FedBytesGiveTheFrameChecksum
  intro s bs
  exact ⟨_, _, rfl, feedAll_eq s s.initval bs, _, ⟨_, exec_rdReg_ok .chkacc _, rfl⟩, State.chkaccWord_low _⟩

/-- Settles O33, by running the engine on the nine bytes under each profile of the table: four of POLY 0x1021, two of POLY
0x8005 and two of XOR-8. -/
theorem checkValuesOfTheReferenceTable : Obligations.CheckValuesOfTheReferenceTable := by
  unfold Obligations.CheckValuesOfTheReferenceTable
  decide +kernel

/-- Settles O47: the byte is the last one, so the candidate with it is verified, and the two outcomes of R178 follow; what an
accepted payload leaves in memory is the law of a run of writes. -/
theorem lastChecksumByteAcceptsOrFails : Obligations.LastChecksumByteAcceptsOrFails := by
  unfold Obligations.LastChecksumByteAcceptsOrFails
  intro s v hfstate hlast _
  rw [State.dataByte_of_chk hfstate, State.chkByte_of_last hlast]
  refine ⟨fun hmatch => ⟨_, State.verify_of_match hmatch, rfl, ?written, ?kept⟩,
    fun hmismatch => State.verify_of_mismatch hmismatch⟩
  case written => exact holdsAt_writeBytes s.mem 0x200 s.cand.pay
  case kept => exact fun a ha => Memory.read_writeBytes_outside s.mem 0x200 a s.cand.pay ha

end Sys2Proof.Proofs

/-! SUPPORT. The transmitter's moves LOAD and EMIT where they are enabled, one equation per outcome (43_transmit.md R195, R198 to
R200). -/

namespace Sys2Proof.Machine

section Tx

variable {s : State}

theorem agentMove_load (hr : s.resetIn = false) : agentMove .load s = s.loadStep := by
  rw [agentMove, hr, if_neg Bool.false_ne_true]

theorem agentMove_emit (hr : s.resetIn = false) : agentMove .emit s = s.emitStep := by
  rw [agentMove, hr, if_neg Bool.false_ne_true]

theorem State.loadStep_of_enabled {b : Byte} {rest : List Byte} (hen : s.en = true) (htx : s.txen = true)
    (hsh : s.txsh = none) (hq : s.txq = b :: rest) : s.loadStep = { s with txsh := some b, txq := rest } := by
  have hload : s.loadEnabled = true := by
    rw [State.loadEnabled, hen, htx, hsh, hq]
    rfl
  rw [State.loadStep, if_pos hload, hq]
  rfl

theorem State.loadStep_of_disabled (h : s.en = false ∨ s.txen = false ∨ s.txsh ≠ none ∨ s.txq = []) :
    s.loadStep = s := by
  rcases s.loadStep_cases with heq | ⟨hen, htx, hsh, b, rest, hq, _⟩
  · exact heq
  · rcases h with h | h | h | h
    · exact nomatch hen.symm.trans h
    · exact nomatch htx.symm.trans h
    · exact absurd hsh h
    · exact nomatch hq.symm.trans h

theorem State.emitStep_of_line {b : Byte} (hen : s.en = true) (hsh : s.txsh = some b) (hloop : s.loop = false) :
    s.emitStep = State.endFrame { s with txsh := none, lineOut := s.lineOut ++ [b] } := by
  have hloop' : State.loop { s with txsh := none } = false := hloop
  simp only [State.emitStep, hen, hsh, hloop', Bool.false_eq_true, if_false]

theorem State.emitStep_of_loop {b : Byte} (hen : s.en = true) (hsh : s.txsh = some b) (hloop : s.loop = true) :
    s.emitStep = (State.loopDeliver { s with txsh := none } b).endFrame := by
  have hloop' : State.loop { s with txsh := none } = true := hloop
  simp only [State.emitStep, hen, hsh, hloop', if_true]

theorem State.emitStep_of_disabled (h : s.en = false ∨ s.txsh = none) : s.emitStep = s := by
  rcases s.emitStep_cases with heq | ⟨hen, b, hsh, _⟩
  · exact heq
  · rcases h with h | h
    · exact nomatch hen.symm.trans h
    · exact nomatch hsh.symm.trans h

theorem State.endFrame_of_last (h : s.txfr = true ∧ s.txq = []) :
    s.endFrame = { s with txfr := false, sticky := s.sticky ||| 0x0008#14 } := by
  obtain ⟨hfr, hq⟩ := h
  rw [State.endFrame, hfr, hq]
  rfl

theorem State.endFrame_of_more (h : ¬(s.txfr = true ∧ s.txq = [])) : s.endFrame = s := by
  rcases s.endFrame_cases with ⟨hfr, hq, _⟩ | ⟨_, heq⟩
  · exact absurd ⟨hfr, hq⟩ h
  · exact heq

end Tx

/-- The state with only the fields left that the transmitter goes by. -/
def State.transmitter (s : State) : State :=
  { State.reset with
    ctrl := s.ctrl, resetIn := s.resetIn, txq := s.txq, txsh := s.txsh, txfr := s.txfr, lineOut := s.lineOut }

/-- A character that arrives leaves the transmitter alone. -/
theorem State.arrive_transmitter (s : State) (e : Entry) (src : CharSource) :
    (s.arrive e src).transmitter = s.transmitter := by
  rcases s.arrive_cases e src with h | ⟨_, _, h⟩
  · rw [h]
  · rcases s.takeChar_cases e with ⟨_, htake⟩ | ⟨_, _, htake⟩
    · rw [h, htake]; rfl
    · rw [h, htake]; rfl

end Sys2Proof.Machine

namespace Sys2Proof.Proofs

open Sys2Proof.Machine

/-- A move that the asserted reset input or the agent's own condition keeps from being made. -/
theorem ite_resetIn_eq_self {s t : State} (h : t = s) : (if s.resetIn then s else t) = s := by
  rw [h, ite_self]

/-- Settles O38, move by move: LOAD, and EMIT to the line or to the block's own receiver. -/
theorem loadAndEmitMoveOneCharacter : Obligations.LoadAndEmitMoveOneCharacter := by
  unfold Obligations.LoadAndEmitMoveOneCharacter
  refine ⟨fun s b rest hr hen htx hsh hq => ?load, fun s h => ?loadRests, fun s b hr hen hsh hloop hlast => ?last,
    fun s b hr hen hsh hloop hmore => ?more, fun s b hr hen hsh hloop => ?loopback, fun s h => ?emitRests⟩
  case load => rw [agentMove_load hr, State.loadStep_of_enabled hen htx hsh hq]
  case loadRests => exact ite_resetIn_eq_self (State.loadStep_of_disabled h)
  case last =>
    rw [agentMove_emit hr, State.emitStep_of_line hen hsh hloop]
    exact State.endFrame_of_last (s := { s with txsh := none, lineOut := s.lineOut ++ [b] }) hlast
  case more =>
    rw [agentMove_emit hr, State.emitStep_of_line hen hsh hloop]
    exact State.endFrame_of_more (s := { s with txsh := none, lineOut := s.lineOut ++ [b] }) hmore
  case loopback =>
    intro u
    have hu : u.transmitter = State.transmitter { s with txsh := none } := State.arrive_transmitter _ _ _
    have hfr : u.txfr = s.txfr := (congrArg State.txfr hu :)
    have hq : u.txq = s.txq := (congrArg State.txq hu :)
    have hends : (s.txfr = true ∧ s.txq = []) ↔ (u.txfr = true ∧ u.txq = []) := by rw [hfr, hq]
    rw [agentMove_emit hr, State.emitStep_of_loop hen hsh hloop]
    exact ⟨fun hlast => State.endFrame_of_last (hends.1 hlast), fun hmore => State.endFrame_of_more (mt hends.2 hmore)⟩
  case emitRests => exact ite_resetIn_eq_self (State.emitStep_of_disabled h)

end Sys2Proof.Proofs

/-! SUPPORT. A checksum error and the automatic NAK (44_receive.md R235, R237; 43_transmit.md R204). -/

namespace Sys2Proof.Machine

theorem State.autoNak_of_idle {s : State} (h : s.txq = [] ∧ s.txsh = none ∧ s.txfr = false) :
    s.autoNak = { s with
      txq := (if s.nakesc then [s.esc] else []) ++ [s.nakb], sticky := s.sticky ||| 0x1000#14 } := by
  obtain ⟨hq, hsh, hfr⟩ := h
  rw [State.autoNak, hq, hsh, hfr]
  rfl

theorem State.autoNak_of_busy {s : State} (h : ¬(s.txq = [] ∧ s.txsh = none ∧ s.txfr = false)) :
    s.autoNak = { s with sticky := s.sticky ||| 0x2000#14 } := by
  have hbusy : (s.txq.isEmpty && s.txsh.isNone && !s.txfr) = false := by
    simpa [← Bool.not_eq_true, and_assoc] using h
  rw [State.autoNak, hbusy, if_neg Bool.false_ne_true]
  rfl

/-! The error itself: the counter, CHKERR, and the automatic NAK where CTRL asks for it (R235). -/

section ChecksumError

variable {s : State}

theorem State.checksumError_of_noNak (h : s.autonak = false) :
    s.checksumError = { s with cntChk := s.cntChk + 1#16, sticky := s.sticky ||| 0x0002#14 } := by
  have hnak : State.autonak ({ s with cntChk := s.cntChk + 1#16 }.signal .chkerr) = false := h
  simp only [State.checksumError, hnak, Bool.false_eq_true, if_false]
  rfl

theorem State.checksumError_of_nak (h : s.autonak = true) :
    s.checksumError = State.autoNak { s with cntChk := s.cntChk + 1#16, sticky := s.sticky ||| 0x0002#14 } := by
  have hnak : State.autonak ({ s with cntChk := s.cntChk + 1#16 }.signal .chkerr) = true := h
  simp only [State.checksumError, hnak, if_true]
  rfl

end ChecksumError

/-- A failure with a checksum error is the error, and then what every failure does to CAND and REPLAY (R237). -/
theorem State.fail_checksum (s : State) (pb : List Entry) :
    s.fail .checksum pb = { s.checksumError with
      replay := if s.stuffed then s.replay else s.cand.ents.tail ++ pb ++ s.replay
      cand := Candidate.cleared, escp := false, fstate := .hunt } := by
  obtain ⟨k, q, heq, _⟩ := s.checksumError_cases
  have hfail : s.fail .checksum pb =
      (if s.checksumError.stuffed then s.checksumError
        else { s.checksumError with replay := s.checksumError.cand.ents.tail ++ pb ++ s.checksumError.replay }).toHunt := rfl
  have hstuffed : s.checksumError.stuffed = s.stuffed := by rw [heq]; rfl
  rw [hfail, hstuffed, heq]
  cases s.stuffed <;> rfl

end Sys2Proof.Machine

namespace Sys2Proof.Proofs

open Sys2Proof.Machine

/-- Settles O46: the error is reported by `State.checksumError`, whose automatic NAK finds the transmitter idle or busy. -/
theorem checksumErrorCountsAndMayNak : Obligations.ChecksumErrorCountsAndMayNak := by
  unfold Obligations.ChecksumErrorCountsAndMayNak
  intro s pb
  refine ⟨fun hoff => ?off, fun hon hidle => ?idle, fun hon hbusy => ?busy⟩
  case off => rw [State.fail_checksum, State.checksumError_of_noNak hoff]
  case idle =>
    rw [State.fail_checksum, State.checksumError_of_nak hon,
      State.autoNak_of_idle (s := { s with cntChk := s.cntChk + 1#16, sticky := s.sticky ||| 0x0002#14 }) hidle]
    rfl
  case busy =>
    rw [State.fail_checksum, State.checksumError_of_nak hon,
      State.autoNak_of_busy (s := { s with cntChk := s.cntChk + 1#16, sticky := s.sticky ||| 0x0002#14 }) hbusy]

end Sys2Proof.Proofs

/-! SUPPORT. Runs of the machine put together, and one clean character taken by the receiver and by FRX (44_receive.md R211,
R212, R222). -/

namespace Sys2Proof.Machine

open Sys2Proof.Safety

/-! ## Runs -/

theorem runs_succ_iff {n : Nat} {s u : State} : runs (n + 1) s u ↔ ∃ t, step s = .next t ∧ runs n t u := by
  have hcore : Sys2Proof.core.step s = step s := rfl
  cases h : step s with
  | next t =>
    rw [h] at hcore
    simp only [runs, Host.Core.run, hcore, Host.Outcome.next.injEq, exists_eq_left']
  | fault r =>
    rw [h] at hcore
    simp only [runs, Host.Core.run, hcore, reduceCtorEq, false_and, exists_false]
  | refused r =>
    rw [h] at hcore
    simp only [runs, Host.Core.run, hcore, reduceCtorEq, false_and, exists_false]

theorem runs_add {m n : Nat} {s t u : State} (h1 : runs m s t) (h2 : runs n t u) : runs (m + n) s u := by
  induction m generalizing s with
  | zero =>
    cases h1
    rwa [Nat.zero_add]
  | succ m ih =>
    obtain ⟨s', hstep, hrest⟩ := runs_succ_iff.1 h1
    rw [Nat.add_right_comm]
    exact runs_succ_iff.2 ⟨s', hstep, ih hrest⟩

/-! ## One character -/

/-- The byte as a clean received character (R45). -/
def cleanEntry (b : Byte) : Entry := { b := b, pe := false, se := false, brk := false, gap := false }

theorem arriveAndDecode_append (bs cs : List Byte) :
    arriveAndDecode (bs ++ cs) = arriveAndDecode bs ++ arriveAndDecode cs := by
  rw [arriveAndDecode, cleanEntries, List.map_append, List.flatMap_append]
  rfl

/-- The block decodes what arrives on the line, and nothing received is still to be decoded. -/
structure Receiver (s : State) : Prop where
  resetIn : s.resetIn = false
  en : s.en = true
  rxen : s.rxen = true
  frmen : s.frmen = true
  loop : s.loop = false
  replay : s.replay = []
  rxfifo : s.rxfifo = []
  gapPend : s.gapPend = false

theorem State.arrive_ext (s : State) (e : Entry) :
    s.arrive e .ext = if s.en && s.rxen && !s.loop then s.takeChar e else s := by
  unfold State.arrive
  cases s.en with
  | false => rfl
  | true =>
    cases s.rxen with
    | false => rfl
    | true => cases s.loop <;> rfl

section Receiver

variable {s : State} (h : Receiver s)

include h

theorem Receiver.agentMove_line (b : Byte) :
    agentMove (.line (cleanEntry b)) s = { s with rxfifo := [cleanEntry b] } := by
  have hallowed : s.lineAllowed (cleanEntry b) = true := by simp [State.lineAllowed, cleanEntry]
  have hroom : ¬(s.rxfifo.length == Config.rxfifoDepth) = true := by rw [h.rxfifo]; decide
  have htake : s.takeChar (cleanEntry b) =
      { s with rxfifo := s.rxfifo ++ [{ cleanEntry b with gap := s.gapPend }], gapPend := false } := if_neg hroom
  have hreset : ¬s.resetIn = true := by rw [h.resetIn]; exact Bool.false_ne_true
  rw [agentMove, if_neg hreset, State.lineStep, if_pos hallowed, State.arrive_ext, h.en, h.rxen, h.loop, htake, h.rxfifo,
    h.gapPend]
  rfl

theorem Receiver.agentMove_frx (hf : s.fstate ≠ .hold) (e : Entry) :
    agentMove .frx { s with rxfifo := [e] } = s.handleEntry e := by
  have hreset : ¬s.resetIn = true := by rw [h.resetIn]; exact Bool.false_ne_true
  have hen : State.frxEnabled { s with rxfifo := [e] } = true :=
    (State.frxEnabled_iff _).2 ⟨h.en, h.frmen, hf, .inr (List.cons_ne_nil _ _)⟩
  have htaken : { s with rxfifo := [] } = s := congrArg (fun q => { s with rxfifo := q }) h.rxfifo.symm
  rcases State.frxStep_of_enabled hen with ⟨e', rest, hr, _⟩ | ⟨e', rest, _, hq, heq⟩
  · exact nomatch h.replay.symm.trans hr
  · cases hq
    rw [agentMove, if_neg hreset, heq]
    exact congrArg (State.handleEntry · e) htaken

/-- A clean character arrives and is decoded, in two steps. -/
theorem Receiver.runs_char (hf : s.fstate ≠ .hold) (b : Byte) (ms : List Move) :
    runs 2 { s with sched := arriveAndDecode [b] ++ ms } ({ s with sched := ms }.handleEntry (cleanEntry b)) := by
  have hline : Receiver { s with sched := .frx :: ms } := { h with }
  have hfrx : Receiver { s with sched := ms } := { h with }
  have harrive : step { s with sched := arriveAndDecode [b] ++ ms } =
      .next { s with rxfifo := [cleanEntry b], sched := .frx :: ms } := by
    rw [← hline.agentMove_line b]
    exact step_agent rfl fun _ => Move.noConfusion
  have hdecode : step { s with rxfifo := [cleanEntry b], sched := .frx :: ms } =
      .next ({ s with sched := ms }.handleEntry (cleanEntry b)) := by
    rw [← hfrx.agentMove_frx hf]
    exact step_agent rfl fun _ => Move.noConfusion
  exact runs_succ_iff.2 ⟨_, harrive, runs_succ_iff.2 ⟨_, hdecode, rfl⟩⟩

end Receiver

end Sys2Proof.Machine

/-! SUPPORT. A candidate under way: the state with a decoder state and a candidate record of its own, what one logical byte does
to it, and the characters on the line that stand for logical bytes (30_encoding.md R112 to R114; 44_receive.md R221 to R233). -/

namespace Sys2Proof.Machine

open Sys2Proof.Safety

/-! ## The state within a candidate -/

/-- The state with the decoder in `f` and the candidate `c`, whose entries are `es`, and with the moves `ms` to come. -/
def State.during (s : State) (f : FState) (c : Candidate) (es : List Entry) (ms : List Move) : State :=
  { s with fstate := f, escp := false, cand := { c with ents := es }, sched := ms }

theorem State.during_self {s : State} {f : FState} (hf : s.fstate = f) (he : s.escp = false) (ms : List Move) :
    s.during f s.cand s.cand.ents ms = { s with sched := ms } := by
  rw [State.during, ← hf, ← he]

theorem Receiver.during {s : State} (h : Receiver s) (f : FState) (c : Candidate) (es : List Entry) (ms : List Move) :
    Receiver (s.during f c es ms) := { h with }

/-- The bytes `bs`, clean on the line, lead the decoder from `f` with `c` to `f'` with `c'`, whatever entries CAND holds. -/
def Reaches (s : State) (bs : List Byte) (f : FState) (c : Candidate) (f' : FState) (c' : Candidate) : Prop :=
  ∀ es ms, ∃ es', runs (2 * bs.length) (s.during f c es (arriveAndDecode bs ++ ms)) (s.during f' c' es' ms)

theorem Reaches.refl (s : State) (f : FState) (c : Candidate) : Reaches s [] f c f c := fun es _ => ⟨es, rfl⟩

theorem Reaches.trans {s : State} {bs bs' : List Byte} {f f' f'' : FState} {c c' c'' : Candidate}
    (h : Reaches s bs f c f' c') (h' : Reaches s bs' f' c' f'' c'') : Reaches s (bs ++ bs') f c f'' c'' := by
  intro es ms
  obtain ⟨es', hruns⟩ := h es (arriveAndDecode bs' ++ ms)
  obtain ⟨es'', hruns'⟩ := h' es' ms
  refine ⟨es'', ?_⟩
  rw [List.length_append, Nat.mul_add, arriveAndDecode_append, List.append_assoc]
  exact runs_add hruns hruns'

/-- The logical byte `v` leads the decoder from `f` with `c` to `f'` with `c'`. -/
def Takes (s : State) (f : FState) (c : Candidate) (v : Byte) (f' : FState) (c' : Candidate) : Prop :=
  ∀ es ms, (s.during f c es ms).dataByte v = s.during f' c' es ms

/-! ## Clean characters -/

theorem FState.ne_hold_of_isCand {f : FState} (h : f.isCand = true) : f ≠ .hold := by
  rintro rfl
  cases h

theorem Receiver.runs_during_char {s : State} (h : Receiver s) {f : FState} (hf : f ≠ .hold) (c : Candidate) (b : Byte)
    (es : List Entry) (ms : List Move) :
    runs 2 (s.during f c es (arriveAndDecode [b] ++ ms)) ((s.during f c es ms).handleEntry (cleanEntry b)) :=
  (h.during f c es ms).runs_char hf b ms

theorem State.handleEntry_unstuffed {s : State} (hs : s.stuffed = false) (e : Entry) : s.handleEntry e = s.plainStep e := by
  rw [State.handleEntry, hs, if_neg Bool.false_ne_true]

/-- An unstuffed character of a candidate is its logical byte, and CAND keeps its entry (R226). -/
theorem State.handleEntry_plain {s : State} (hs : s.stuffed = false) {f : FState} (hf : f.isCand = true) (c : Candidate)
    (b : Byte) (es : List Entry) (ms : List Move) :
    (s.during f c es ms).handleEntry (cleanEntry b) = (s.during f c (es ++ [cleanEntry b]) ms).dataByte b := by
  rw [State.handleEntry_unstuffed (s := s.during f c es ms) hs]
  rcases (s.during f c es ms).plainStep_cases (cleanEntry b) with ⟨h, _⟩ | ⟨h, _⟩ | ⟨_, heq⟩ | ⟨h, _⟩
  · exact nomatch hf.symm.trans (congrArg FState.isCand h)
  · exact nomatch hf.symm.trans (congrArg FState.isCand h)
  · rw [heq]
    rfl
  · exact nomatch hf.symm.trans (congrArg FState.isCand h)

section Stuffed

variable {s : State} (hs : s.stuffed = true)

include hs

theorem State.handleEntry_stuffed (b : Byte) : s.handleEntry (cleanEntry b) = s.stuffedByte b := by
  rw [State.handleEntry, if_pos hs]
  rfl

theorem State.handleEntry_of_no_token {b : Byte} (ht : s.token b = none) :
    s.handleEntry (cleanEntry b) = { s with escp := true } := by
  simp only [State.handleEntry_stuffed hs, State.stuffedByte, ht]

theorem State.handleEntry_in_candidate {b : Byte} {t : Token} (ht : s.token b = some t) (hf : s.fstate.isCand = true) :
    s.handleEntry (cleanEntry b) = State.inCandidate { s with escp := false } t := by
  simp only [State.handleEntry_stuffed hs, State.stuffedByte, ht]
  exact if_pos hf

theorem State.handleEntry_outside {b : Byte} {t : Token} (ht : s.token b = some t) (hf : s.fstate.isCand = false) :
    s.handleEntry (cleanEntry b) = State.outside { s with escp := false } t := by
  simp only [State.handleEntry_stuffed hs, State.stuffedByte, ht]
  exact if_neg (by rw [show State.fstate { s with escp := false } = s.fstate from rfl, hf]; exact Bool.false_ne_true)

/-- The first ESC of a pair is taken silently; the second character is then read as escaped. -/
theorem Receiver.runs_during_escaped (h : Receiver s) {f : FState} (hf : f ≠ .hold) (c : Candidate) (b : Byte)
    (es : List Entry) (ms : List Move) :
    runs 4 (s.during f c es (arriveAndDecode [s.esc, b] ++ ms))
      (State.handleEntry { s.during f c es ms with escp := true } (cleanEntry b)) := by
  have hesc : (s.during f c es (arriveAndDecode [b] ++ ms)).token s.esc = none :=
    (State.token_unescaped rfl _).trans (if_pos rfl)
  have hfirst := h.runs_during_char hf c s.esc es (arriveAndDecode [b] ++ ms)
  rw [State.handleEntry_of_no_token (s := s.during f c es _) hs hesc] at hfirst
  have hreceiver : Receiver { s with fstate := f, escp := true, cand := { c with ents := es } } := { h with }
  exact runs_add hfirst (hreceiver.runs_char hf b ms)

end Stuffed

/-! ## Logical bytes on the line -/

/-- The bytes on the line that stand for logical bytes outside the sync sequence and the end marker (R112). -/
def State.wire (s : State) (bs : List Byte) : List Byte := if s.stuffed then s.stuff bs else bs

theorem State.wire_nil (s : State) : s.wire [] = [] := by
  rw [State.wire]
  split <;> rfl

theorem State.stuff_append (s : State) (bs cs : List Byte) : s.stuff (bs ++ cs) = s.stuff bs ++ s.stuff cs := by
  induction bs with
  | nil => rfl
  | cons v rest ih => rw [List.cons_append, s.stuff_cons, s.stuff_cons, ih, List.append_assoc]

theorem State.wire_append (s : State) (bs cs : List Byte) : s.wire (bs ++ cs) = s.wire bs ++ s.wire cs := by
  simp only [State.wire]
  split
  · exact s.stuff_append bs cs
  · rfl

theorem State.wire_singleton_of_escaped {s : State} (hs : s.stuffed = true) {v : Byte}
    (hv : v = s.esc ∨ s.nsync = 1 ∧ v = s.sync0) : s.wire [v] = [s.esc, v] := by
  rw [State.wire, if_pos hs, s.stuff_cons, if_pos hv]
  rfl

theorem State.wire_singleton_of_unescaped {s : State} {v : Byte}
    (hv : s.stuffed = true → ¬(v = s.esc ∨ s.nsync = 1 ∧ v = s.sync0)) :
    s.wire [v] = [v] := by
  rw [State.wire]
  split
  next hs =>
    rw [s.stuff_cons, if_neg (hv hs)]
    rfl
  next => rfl

/-- Either profile's frame, the wire form of each part apart (R112, R190). -/
theorem State.wireFrame_eq (s : State) (a : Byte) (p : List Byte) :
    s.wireFrame a p =
      s.syncSeq ++ s.wire (s.header a p.length) ++ s.wire p ++ s.trailer ++ s.wire (s.chkField a p) := by
  cases hs : s.stuffed with
  | true => simp only [State.wireFrame_of_stuffed hs, State.wire, hs, if_true, s.stuff_append, List.append_assoc]
  | false =>
    simp only [State.wireFrame_of_unstuffed hs, State.wire, hs, Bool.false_eq_true, if_false, State.logical]

/-- The characters of a logical byte of a candidate end in its handling, in either profile (R112, R114, R226, R229). -/
theorem Receiver.runs_logical {s : State} (h : Receiver s) {f : FState} (hf : f.isCand = true) (c : Candidate) (v : Byte)
    (es : List Entry) (ms : List Move) :
    ∃ es', runs (2 * (s.wire [v]).length) (s.during f c es (arriveAndDecode (s.wire [v]) ++ ms))
      ((s.during f c es' ms).dataByte v) := by
  have hhold := FState.ne_hold_of_isCand hf
  cases hs : s.stuffed with
  | false =>
    have hwire : s.wire [v] = [v] := State.wire_singleton_of_unescaped fun hs' => nomatch hs.symm.trans hs'
    refine ⟨es ++ [cleanEntry v], ?_⟩
    rw [hwire, ← State.handleEntry_plain hs hf]
    exact h.runs_during_char hhold c v es ms
  | true =>
    by_cases hv : v = s.esc ∨ s.nsync = 1 ∧ v = s.sync0
    · have htoken : State.token { s.during f c es ms with escp := true } v = some (.data v true) := by
        rw [State.token_escaped rfl]
        rcases hv with hv | ⟨hn, hv⟩
        · exact if_pos hv
        · exact ite_eq_left_iff.2 fun _ => if_pos ⟨hv, hn⟩
      have hruns := h.runs_during_escaped hs hhold c v es ms
      rw [State.handleEntry_in_candidate (s := { s.during f c es ms with escp := true }) hs htoken hf] at hruns
      rw [State.wire_singleton_of_escaped hs hv]
      exact ⟨es, hruns⟩
    · have htoken : (s.during f c es ms).token v = some (.data v false) := by
        rw [State.token_unescaped rfl]
        exact (if_neg fun he => hv (.inl he)).trans (if_neg fun ⟨he, hn⟩ => hv (.inr ⟨hn, he⟩))
      have hruns := h.runs_during_char hhold c v es ms
      rw [State.handleEntry_in_candidate (s := s.during f c es ms) hs htoken hf] at hruns
      rw [State.wire_singleton_of_unescaped fun _ => hv]
      exact ⟨es, hruns⟩

theorem Receiver.reaches_byte {s : State} (h : Receiver s) {f f' : FState} {c c' : Candidate} {v : Byte}
    (hf : f.isCand = true) (ht : Takes s f c v f' c') : Reaches s (s.wire [v]) f c f' c' := by
  intro es ms
  obtain ⟨es', hruns⟩ := h.runs_logical hf c v es ms
  rw [ht] at hruns
  exact ⟨es', hruns⟩

/-- The bytes of a field before its last: each is added to the field `put`, in the same decoder state. -/
theorem Receiver.reaches_bytes {s : State} (h : Receiver s) {f : FState} (hf : f.isCand = true)
    {put : List Byte → Candidate} {N : Nat}
    (hmore : ∀ q v, q.length + 1 < N → Takes s f (put q) v f (put (q ++ [v]))) (bs q : List Byte)
    (hlen : q.length + bs.length < N) : Reaches s (s.wire bs) f (put q) f (put (q ++ bs)) := by
  induction bs generalizing q with
  | nil =>
    rw [s.wire_nil, List.append_nil]
    exact .refl s f _
  | cons v rest ih =>
    rw [List.length_cons] at hlen
    have hrest := ih (q ++ [v]) (by rw [List.length_append, List.length_singleton]; omega)
    rw [← List.singleton_append, s.wire_append, ← List.append_assoc]
    exact (h.reaches_byte hf (hmore q v (by omega))).trans hrest

/-- The bytes of a field with its last, which leads on. -/
theorem Receiver.reaches_field {s : State} (h : Receiver s) {f f' : FState} (hf : f.isCand = true)
    {put : List Byte → Candidate} {c' : Candidate} {bs : List Byte} (hne : bs ≠ [])
    (hmore : ∀ q v, q.length + 1 < bs.length → Takes s f (put q) v f (put (q ++ [v])))
    (hlast : ∀ q v, q ++ [v] = bs → Takes s f (put q) v f' c') : Reaches s (s.wire bs) f (put []) f' c' := by
  obtain ⟨q, v, rfl⟩ := (List.eq_nil_or_concat' bs).resolve_left hne
  rw [s.wire_append]
  exact (h.reaches_bytes hf hmore q [] (by simp)).trans (h.reaches_byte hf (hlast q v rfl))

end Sys2Proof.Machine

/-! SUPPORT. A receiver that is sent a wire frame (43_transmit.md R192, R205), field by field: the sync sequence, the header, the
payload, the end marker and the checksum. -/

namespace Sys2Proof.Machine

open Sys2Proof.Safety

/-! ## The sync sequence (R221, R223 to R225, R228) -/

/-- The decoder state of the first byte after the address. -/
def State.afterAddr (s : State) : FState := if 0 < s.lenw then .len else .pay

/-- The decoder state of the first byte after the sync sequence (R225). -/
def State.afterSync (s : State) : FState := if s.hasAddr then .addr else s.afterAddr

theorem Receiver.reaches_char {s : State} (h : Receiver s) {f f' : FState} {c c' : Candidate} {b : Byte} (hf : f ≠ .hold)
    (hb : ∀ es ms, ∃ es', (s.during f c es ms).handleEntry (cleanEntry b) = s.during f' c' es' ms) :
    Reaches s [b] f c f' c' := by
  intro es ms
  obtain ⟨es', heq⟩ := hb es ms
  have hruns := h.runs_during_char hf c b es ms
  rw [heq] at hruns
  exact ⟨es', hruns⟩

section Sync

variable {s : State} (h : Receiver s) (c : Candidate)

include h

theorem Receiver.reaches_syncSeq_plain (hs : s.stuffed = false) :
    Reaches s s.syncSeq .hunt c s.afterSync Candidate.cleared := by
  have hplain (f : FState) (es : List Entry) (ms : List Move) (b : Byte) :
      (s.during f c es ms).handleEntry (cleanEntry b) = (s.during f c es ms).plainStep (cleanEntry b) :=
    State.handleEntry_unstuffed (s := s.during f c es ms) hs _
  have hfirst (es : List Entry) (ms : List Move) : (s.during .hunt c es ms).plainHunt (cleanEntry s.sync0) =
      if s.nsync2 then s.during .sync c [cleanEntry s.sync0] ms
      else (s.during .hunt c [cleanEntry s.sync0] ms).start :=
    (if_neg Bool.false_ne_true).trans (if_pos (beq_self_eq_true _))
  cases hn : s.nsync2 with
  | false =>
    rw [State.syncSeq, hn, if_neg Bool.false_ne_true]
    refine h.reaches_char (by decide) fun es ms => ⟨[cleanEntry s.sync0], ?_⟩
    simp only [hn, Bool.false_eq_true, if_false] at hfirst
    exact (hplain ..).trans (hfirst es ms)
  | true =>
    have hsync0 : Reaches s [s.sync0] .hunt c .sync c := by
      refine h.reaches_char (by decide) fun es ms => ⟨[cleanEntry s.sync0], ?_⟩
      simp only [hn, if_true] at hfirst
      exact (hplain ..).trans (hfirst es ms)
    have hsync1 : Reaches s [s.sync1] .sync c s.afterSync Candidate.cleared := by
      refine h.reaches_char (by decide) fun es ms => ⟨es ++ [cleanEntry s.sync1], ?_⟩
      have hno : ¬(s.sync1 != s.sync1) = true := by simp
      exact (hplain ..).trans (if_neg hno)
    rw [State.syncSeq, hn, if_pos rfl]
    exact hsync0.trans hsync1

theorem Receiver.reaches_syncSeq_stuffed (hlegal : s.legal = true) (hs : s.stuffed = true) :
    Reaches s s.syncSeq .hunt c s.afterSync Candidate.cleared := by
  cases hn : s.nsync2 with
  | false =>
    have hone : s.nsync = 1 := s.nsync_eq_one_iff.2 hn
    rw [State.syncSeq, hn, if_neg Bool.false_ne_true]
    refine h.reaches_char (by decide) fun es ms => ⟨es, ?_⟩
    have htoken : (s.during .hunt c es ms).token s.sync0 = some .start := by
      rw [State.token_unescaped rfl]
      exact (if_neg (State.sync0_ne_esc hlegal hs hone)).trans (if_pos ⟨rfl, hone⟩)
    exact State.handleEntry_outside (s := s.during .hunt c es ms) hs htoken rfl
  | true =>
    have htwo : s.nsync = 2 := s.nsync_eq_two_iff.2 hn
    obtain ⟨_, _, _, _, _, hpair, _, _⟩ := s.legal_iff.1 hlegal
    obtain ⟨hesc, hne⟩ := hpair ⟨hs, htwo⟩
    rw [State.syncSeq, hn, if_pos rfl, hesc]
    intro es ms
    have htoken : State.token { s.during .hunt c es ms with escp := true } s.sync1 = some .start := by
      rw [State.token_escaped rfl]
      refine (if_neg hne).trans ((if_neg fun ⟨_, hone⟩ => ?_).trans (if_pos ⟨rfl, htwo⟩))
      exact nomatch htwo.symm.trans hone
    have hruns := h.runs_during_escaped hs (f := .hunt) (by decide) c s.sync1 es ms
    rw [State.handleEntry_outside (s := { s.during .hunt c es ms with escp := true }) hs htoken rfl] at hruns
    exact ⟨es, hruns⟩

theorem Receiver.reaches_syncSeq (hlegal : s.legal = true) :
    Reaches s s.syncSeq .hunt c s.afterSync Candidate.cleared := by
  cases hs : s.stuffed with
  | false => exact h.reaches_syncSeq_plain c hs
  | true => exact h.reaches_syncSeq_stuffed c hlegal hs

end Sync

/-! ## The length field (R111, R191, R230) -/

/-- That the length value fits, in natural numbers. -/
theorem State.lenFits_iff (s : State) (n : Nat) :
    s.lenFits n = true ↔
      s.lenw = 0 ∨ (s.lenAdj ≤ s.ovh + n ∧ s.ovh + n - s.lenAdj ≤ 2 ^ (8 * s.lenw) - 1) := by
  have hone : 1 ≤ 2 ^ (8 * s.lenw) := Nat.one_le_two_pow
  have hcast : (2 : Int) ^ (8 * s.lenw) = ((2 ^ (8 * s.lenw) : Nat) : Int) := by push_cast; rfl
  simp only [State.lenFits, s.lenValue_eq, hcast, Bool.or_eq_true, Bool.and_eq_true, beq_iff_eq, decide_eq_true_iff]
  omega

theorem State.rxLength_lenBytes {s : State} (hpos : 0 < s.lenw) (hmax : s.lenw ≤ 2) {l : Nat}
    (hl : l ≤ 2 ^ (8 * s.lenw) - 1) : s.rxLength (s.lenBytes l) = l := by
  obtain h1 | h2 : s.lenw = 1 ∨ s.lenw = 2 := by omega
  · rw [h1] at hl
    simp only [State.rxLength, h1, beq_self_eq_true, if_true]
    exact State.lenBytes_value_one h1 (by omega)
  · rw [h2] at hl
    have hnot : ¬(s.lenw == 1) = true := by rw [h2]; decide
    simp only [State.rxLength, if_neg hnot]
    cases hbe : s.lenbe with
    | true =>
      rw [if_pos rfl, toNat_append_eq_add]
      exact State.lenBytes_value_be h2 hbe (by omega)
    | false =>
      rw [if_neg Bool.false_ne_true, toNat_append_eq_add, Nat.add_comm]
      exact State.lenBytes_value_le h2 hbe (by omega)

/-- The receiver reads back the payload length that the transmitter wrote. -/
theorem State.rxPayLen_lenField {s : State} (hpos : 0 < s.lenw) (hmax : s.lenw ≤ 2) {n : Nat} (hfits : s.lenFits n = true) :
    s.rxPayLen (s.lenField n) = n := by
  obtain ⟨hlow, hhigh⟩ := ((s.lenFits_iff n).1 hfits).resolve_left hpos.ne'
  have hvalue : (s.lenValue n).toNat = s.ovh + n - s.lenAdj := by rw [s.lenValue_eq]; omega
  rw [State.rxPayLen, State.lenField, hvalue, State.rxLength_lenBytes hpos hmax hhigh]
  omega

section Len

variable {s : State} {v : Byte}

theorem State.lenByte_of_more (h : s.cand.len.length + 1 < s.lenw) :
    s.lenByte v = { s with cand := { s.cand with len := s.cand.len ++ [v] } } := by
  have hmore : ¬((s.cand.len ++ [v]).length == s.lenw) = true := by
    rw [beq_iff_eq, List.length_append, List.length_singleton]
    exact h.ne
  exact if_neg hmore

theorem State.lenByte_of_last (h : (s.cand.len ++ [v]).length = s.lenw) {n : Nat}
    (hn : s.rxPayLen (s.cand.len ++ [v]) = n) (hpos : 1 ≤ n) (hmax : n ≤ 256) :
    s.lenByte v =
      { s with cand := { s.cand with len := s.cand.len ++ [v], nexp := some n }, fstate := .pay } := by
  have hfits : ¬((n : Int) < 1 ∨ (Config.bufSize : Int) < n) := by
    rw [Config.bufSize]
    omega
  simp only [State.lenByte, h, hn, beq_self_eq_true, if_true, if_neg hfits, Int.toNat_natCast]

theorem takes_len (c : Candidate) {q : List Byte} (hlen : q.length + 1 < s.lenw) :
    Takes s .len { c with len := q } v .len { c with len := q ++ [v] } := fun es ms =>
  State.lenByte_of_more (s := s.during .len { c with len := q } es ms) hlen

theorem takes_len_last (c : Candidate) {q : List Byte} (hlen : (q ++ [v]).length = s.lenw) {n : Nat}
    (hn : s.rxPayLen (q ++ [v]) = n) (hpos : 1 ≤ n) (hmax : n ≤ 256) :
    Takes s .len { c with len := q } v .pay { c with len := q ++ [v], nexp := some n } := fun es ms =>
  State.lenByte_of_last (s := s.during .len { c with len := q } es ms) hlen hn hpos hmax

end Len

/-- The candidate after the address byte, where the profile has one. -/
def State.addressed (s : State) (a : Byte) : Candidate := { Candidate.cleared with addr := if s.hasAddr then a else 0#8 }

/-- The candidate after the header of a frame with `n` payload bytes. -/
def State.headed (s : State) (a : Byte) (n : Nat) : Candidate :=
  { s.addressed a with len := s.lenField n, nexp := if s.lenw = 0 then none else some n }

section Header

variable {s : State} (h : Receiver s) (a : Byte)

include h

theorem Receiver.reaches_address :
    Reaches s (s.wire (if s.hasAddr then [a] else [])) s.afterSync Candidate.cleared s.afterAddr (s.addressed a) := by
  rw [State.afterSync, State.addressed]
  cases s.hasAddr with
  | false =>
    rw [if_neg Bool.false_ne_true, if_neg Bool.false_ne_true, if_neg Bool.false_ne_true, s.wire_nil]
    exact .refl s _ _
  | true => exact h.reaches_byte (f := .addr) rfl fun _ _ => rfl

theorem Receiver.reaches_lenField (hlenw : s.lenw ≤ 2) {n : Nat} (hpos : 1 ≤ n) (hmax : n ≤ 256)
    (hfits : s.lenFits n = true) :
    Reaches s (s.wire (s.lenField n)) s.afterAddr (s.addressed a) .pay (s.headed a n) := by
  have hlength : (s.lenField n).length = s.lenw := State.lenBytes_length hlenw _
  rw [State.afterAddr, State.headed]
  rcases Nat.eq_zero_or_pos s.lenw with hw | hw
  · have hnil : s.lenField n = [] := List.eq_nil_of_length_eq_zero (hlength.trans hw)
    rw [hnil, if_neg (Nat.not_lt.2 hw.le), if_pos hw, s.wire_nil]
    exact .refl s _ _
  · have hvalue := State.rxPayLen_lenField hw hlenw hfits
    rw [if_pos hw, if_neg hw.ne']
    refine h.reaches_field (f := .len) rfl (List.ne_nil_of_length_pos (hlength ▸ hw))
      (put := fun q => { s.addressed a with len := q }) (fun q v hq => takes_len (s.addressed a) (hlength ▸ hq))
      fun q v hq => ?_
    rw [← hq] at hlength hvalue ⊢
    exact takes_len_last (s.addressed a) hlength hvalue hpos hmax

theorem Receiver.reaches_header (hlenw : s.lenw ≤ 2) {n : Nat} (hpos : 1 ≤ n) (hmax : n ≤ 256)
    (hfits : s.lenFits n = true) :
    Reaches s (s.wire (s.header a n)) s.afterSync Candidate.cleared .pay (s.headed a n) := by
  rw [State.header, s.wire_append]
  exact (h.reaches_address a).trans (h.reaches_lenField a hlenw hpos hmax hfits)

end Header

/-! ## The payload (R231) -/

/-- The decoder state after the payload: only an end marker ends a payload without a declared length. -/
def State.afterPay (s : State) : FState := if s.lenw = 0 then .pay else if s.endmk then .trl else .chk

section Pay

variable {s : State} {v : Byte}

theorem State.payByte_of_open (hopen : s.cand.nexp = none) (h : s.cand.pay.length < 256) :
    s.payByte v = { s with cand := { s.cand with pay := s.cand.pay ++ [v] } } := by
  have hroom : ¬(s.cand.pay.length == Config.bufSize) = true := by
    rw [beq_iff_eq]
    exact h.ne
  simp only [State.payByte, hopen, if_neg hroom]

theorem State.payByte_of_more {n : Nat} (hto : s.cand.nexp = some n) (h : s.cand.pay.length + 1 < n) :
    s.payByte v = { s with cand := { s.cand with pay := s.cand.pay ++ [v] } } := by
  have hmore : ¬((s.cand.pay ++ [v]).length == n) = true := by
    rw [beq_iff_eq, List.length_append, List.length_singleton]
    exact h.ne
  simp only [State.payByte, hto, if_neg hmore]

theorem State.payByte_of_last {n : Nat} (hto : s.cand.nexp = some n) (h : (s.cand.pay ++ [v]).length = n) :
    s.payByte v = { s with
      cand := { s.cand with pay := s.cand.pay ++ [v] }, fstate := if s.endmk then .trl else .chk } := by
  simp only [State.payByte, hto, h, beq_self_eq_true, if_true]

variable (c : Candidate) {q : List Byte}

theorem takes_pay_open (hopen : c.nexp = none) (hlen : q.length < 256) :
    Takes s .pay { c with pay := q } v .pay { c with pay := q ++ [v] } := fun es ms =>
  State.payByte_of_open (s := s.during .pay { c with pay := q } es ms) hopen hlen

theorem takes_pay_to {n : Nat} (hto : c.nexp = some n) (hlen : q.length + 1 < n) :
    Takes s .pay { c with pay := q } v .pay { c with pay := q ++ [v] } := fun es ms =>
  State.payByte_of_more (s := s.during .pay { c with pay := q } es ms) hto hlen

theorem takes_pay_last {n : Nat} (hto : c.nexp = some n) (hlen : (q ++ [v]).length = n) :
    Takes s .pay { c with pay := q } v (if s.endmk then .trl else .chk) { c with pay := q ++ [v] } := fun es ms =>
  State.payByte_of_last (s := s.during .pay { c with pay := q } es ms) hto hlen

end Pay

theorem Receiver.reaches_payload {s : State} (h : Receiver s) (a : Byte) {p : List Byte} (hpos : 1 ≤ p.length)
    (hmax : p.length ≤ 256) :
    Reaches s (s.wire p) .pay (s.headed a p.length) s.afterPay { s.headed a p.length with pay := p } := by
  rw [State.afterPay]
  by_cases hw : s.lenw = 0
  · have hopen : (s.headed a p.length).nexp = none := if_pos hw
    rw [if_pos hw]
    exact h.reaches_bytes (N := 257) rfl (put := fun q => { s.headed a p.length with pay := q })
      (fun q v hq => takes_pay_open (s.headed a p.length) hopen (by omega)) p [] (by rw [List.length_nil]; omega)
  · have hto : (s.headed a p.length).nexp = some p.length := if_neg hw
    rw [if_neg hw]
    refine h.reaches_field rfl (List.ne_nil_of_length_pos hpos)
      (put := fun q => { s.headed a p.length with pay := q })
      (fun q v hq => takes_pay_to (s.headed a p.length) hto hq) fun q v hq => ?_
    have hlast := takes_pay_last (s := s) (s.headed a p.length) hto (congrArg List.length hq)
    rwa [hq] at hlast

/-! ## The end marker (R229) -/

theorem State.inCandidate_endMark_of_trl {s : State} (h : s.fstate = .trl) :
    s.inCandidate .endMark = { s with fstate := .chk } := by
  simp only [State.inCandidate, h, beq_self_eq_true, if_true]

theorem State.inCandidate_endMark_of_open {s : State} (h : s.fstate = .pay) (hopen : s.cand.nexp = none)
    (hpay : s.cand.pay ≠ []) : s.inCandidate .endMark = { s with fstate := .chk } := by
  have hne : ¬s.cand.pay.isEmpty = true := by rwa [List.isEmpty_iff]
  simp only [State.inCandidate, h, hopen, if_neg hne]
  rfl

theorem Receiver.reaches_trailer {s : State} (h : Receiver s) (hlegal : s.legal = true) {c : Candidate} (hpay : c.pay ≠ [])
    (hopen : s.lenw = 0 → c.nexp = none) : Reaches s s.trailer s.afterPay c .chk c := by
  obtain ⟨_, _, _, hneeds, hstuffs, _, _, _⟩ := s.legal_iff.1 hlegal
  rw [State.trailer]
  cases hend : s.endmk with
  | false =>
    have hw : s.lenw ≠ 0 := fun hw => nomatch hend.symm.trans (hneeds hw)
    rw [State.afterPay, if_neg hw, hend]
    exact .refl s _ _
  | true =>
    have hs : s.stuffed = true := hstuffs hend
    have hstate : s.afterPay = if s.lenw = 0 then .pay else .trl := by rw [State.afterPay, hend, if_pos rfl]
    have hcand : s.afterPay.isCand = true := by rw [hstate]; split <;> rfl
    obtain ⟨hesc, hone, htwo⟩ := State.etxb_ne hlegal hend
    intro es ms
    have htoken : State.token { s.during s.afterPay c es ms with escp := true } s.etxb = some .endMark := by
      rw [State.token_escaped rfl]
      exact (if_neg hesc).trans ((if_neg fun ⟨heq, hn⟩ => hone hn heq).trans
        ((if_neg fun ⟨heq, hn⟩ => htwo hn heq).trans (if_pos ⟨rfl, hend⟩)))
    have hruns := h.runs_during_escaped hs (FState.ne_hold_of_isCand hcand) c s.etxb es ms
    rw [State.handleEntry_in_candidate (s := { s.during s.afterPay c es ms with escp := true }) hs htoken hcand] at hruns
    have hmark : (s.during s.afterPay c es ms).inCandidate .endMark = s.during .chk c es ms := by
      rw [hstate]
      split
      next hw => exact State.inCandidate_endMark_of_open rfl (hopen hw) hpay
      next => exact State.inCandidate_endMark_of_trl rfl
    exact ⟨es, hmark ▸ hruns⟩

/-! ## The checksum field (R178, R233) -/

theorem State.chkByte_of_more {s : State} {v : Byte} (h : s.cand.chk.length + 1 < s.chkw) :
    s.chkByte v = { s with cand := { s.cand with chk := s.cand.chk ++ [v] } } := by
  have hmore : ¬((s.cand.chk ++ [v]).length == s.chkw) = true := by
    rw [beq_iff_eq, List.length_append, List.length_singleton]
    exact h.ne
  exact if_neg hmore

theorem takes_chk {s : State} {v : Byte} (c : Candidate) {q : List Byte} (hlen : q.length + 1 < s.chkw) :
    Takes s .chk { c with chk := q } v .chk { c with chk := q ++ [v] } := fun es ms =>
  State.chkByte_of_more (s := s.during .chk { c with chk := q } es ms) hlen

/-- A candidate with the checksum of its bytes is accepted with the last byte of the checksum field. -/
theorem Receiver.runs_checksum {s : State} (h : Receiver s) {c : Candidate} {ks : List Byte} (hlen : ks.length = s.chkw)
    (hvalue : s.chkVal ks = s.checksum (s.chkRange c.addr c.len c.pay)) (hempty : c.chk = []) (es : List Entry)
    (ms : List Move) :
    ∃ es', runs (2 * (s.wire ks).length) (s.during .chk c es (arriveAndDecode (s.wire ks) ++ ms))
      (s.during .chk { c with chk := ks } es' ms).accept := by
  have hwidth : 0 < s.chkw := by
    rw [State.chkw]
    split <;> decide
  obtain ⟨q, v, rfl⟩ := (List.eq_nil_or_concat' ks).resolve_left (List.ne_nil_of_length_pos (hlen ▸ hwidth))
  have hq : q.length + 1 = s.chkw := by rw [← hlen, List.length_append, List.length_singleton]
  have hbytes : Reaches s (s.wire q) .chk c .chk { c with chk := q } := by
    have hput : c = { c with chk := [] } := by rw [← hempty]
    rw [hput]
    exact h.reaches_bytes (N := s.chkw) rfl (put := fun q => { c with chk := q }) (fun q v hq => takes_chk c hq) q []
      (by rw [List.length_nil]; omega)
  obtain ⟨es', hruns⟩ := hbytes es (arriveAndDecode (s.wire [v]) ++ ms)
  obtain ⟨es'', hruns'⟩ := h.runs_logical (f := .chk) rfl { c with chk := q } v es' ms
  have haccept : (s.during .chk { c with chk := q } es'' ms).dataByte v =
      (s.during .chk { c with chk := q ++ [v] } es'' ms).accept := by
    rw [State.dataByte_of_chk rfl, State.chkByte_of_last (s := s.during .chk { c with chk := q } es'' ms) hq]
    exact State.verify_of_match (s := s.during .chk { c with chk := q ++ [v] } es'' ms) hvalue
  rw [haccept] at hruns'
  refine ⟨es'', ?_⟩
  rw [s.wire_append, List.length_append, Nat.mul_add, arriveAndDecode_append, List.append_assoc]
  exact runs_add hruns hruns'

/-- The address byte enters the checksum only where the profile has one. -/
theorem State.chkRange_headed (s : State) (a : Byte) (lb p : List Byte) :
    s.chkRange (if s.hasAddr then a else 0#8) lb p = s.chkRange a lb p := by
  simp only [State.chkRange]
  cases s.hasAddr <;> rfl

/-- A receiver that hunts accepts the wire frame it is sent. -/
theorem Receiver.runs_wireFrame {s : State} (h : Receiver s) (hlegal : s.legal = true) (hhunt : s.fstate = .hunt)
    (hescp : s.escp = false) (a : Byte) {p : List Byte} (hpos : 1 ≤ p.length) (hmax : p.length ≤ 256)
    (hfits : s.lenFits p.length = true) :
    ∃ es, runs (2 * (s.wireFrame a p).length) { s with sched := arriveAndDecode (s.wireFrame a p) }
      (s.during .chk { s.headed a p.length with pay := p, chk := s.chkField a p } es []).accept := by
  obtain ⟨_, _, hlenw, _⟩ := s.legal_iff.1 hlegal
  have hlenw : s.lenw ≤ 2 := by
    have := (s.prof0.extractLsb' 2 2).isLt
    rw [State.lenw] at hlenw ⊢
    omega
  have hbody := (((h.reaches_syncSeq s.cand hlegal).trans (h.reaches_header a hlenw hpos hmax hfits)).trans
    (h.reaches_payload a hpos hmax)).trans
    (h.reaches_trailer hlegal (c := { s.headed a p.length with pay := p }) (List.ne_nil_of_length_pos hpos) fun hw => if_pos hw)
  obtain ⟨es, hruns⟩ := hbody s.cand.ents (arriveAndDecode (s.wire (s.chkField a p)) ++ [])
  have hvalue : s.chkVal (s.chkField a p) =
      s.checksum (s.chkRange (if s.hasAddr then a else 0#8) (s.lenField p.length) p) := by
    rw [s.chkRange_headed]
    exact s.chkVal_chkBytes _
  obtain ⟨es', hruns'⟩ := h.runs_checksum (c := { s.headed a p.length with pay := p }) (ks := s.chkField a p)
    (s.chkBytes_length _) hvalue rfl es []
  refine ⟨es', ?_⟩
  rw [State.during_self hhunt hescp] at hruns
  have hall := runs_add hruns hruns'
  rwa [← Nat.mul_add, ← List.length_append, List.append_nil, ← arriveAndDecode_append, ← s.wireFrame_eq] at hall

end Sys2Proof.Machine

namespace Sys2Proof.Proofs

open Sys2Proof.Machine Sys2Proof.Safety

/-- Settles O56: the run by `Receiver.runs_wireFrame`, field by field of the frame; what acceptance leaves is `State.accept`. -/
theorem wireFrameRoundTrip : Obligations.WireFrameRoundTrip := by
  unfold Obligations.WireFrameRoundTrip
  intro s a p hr hen hrxen hfrmen hloop hlegal hhunt hescp hreplay hrxfifo hgap hpos hmax hfits
  obtain ⟨es, hruns⟩ := Receiver.runs_wireFrame ⟨hr, hen, hrxen, hfrmen, hloop, hreplay, hrxfifo, hgap⟩ hlegal hhunt hescp a
    hpos hmax ((s.lenFits_iff p.length).2 hfits)
  refine ⟨_, hruns, rfl, holdsAt_writeBytes s.mem 0x200 p, ?rxinfo, rfl, rfl, rfl, rfl, rfl, rfl, rfl, rfl⟩
  case rxinfo =>
    change (0#8 ++ (if s.hasAddr then if s.hasAddr then a else 0#8 else 0#8) ++ BitVec.ofNat 16 p.length : Word) = _
    cases s.hasAddr <;> rfl

end Sys2Proof.Proofs

/-! SUPPORT. While a frame is in transmission the decoder leaves TXQ alone: the automatic NAK is all that it would queue, and a
busy transmitter drops it (43_transmit.md R204). -/

namespace Sys2Proof.Machine

theorem State.discardByte_txq (s : State) (v : Byte) (x : Bool) : (s.discardByte v x).txq = s.txq := by
  rcases (s.discard (1 + x.toNat)).oob_cases v x with h | ⟨_, h⟩ | ⟨_, _, h⟩
  · rw [State.discardByte, h]; rfl
  · rw [State.discardByte, h]; rfl
  · rw [State.discardByte, h]; rfl

section InFrame

variable {s : State} (hfr : s.txfr = true)

include hfr

theorem State.checksumError_txq : s.checksumError.txq = s.txq := by
  obtain ⟨k, q, h, hq | ⟨_, hraw, _⟩⟩ := s.checksumError_cases
  · rw [h]; exact hq
  · exact nomatch hfr.symm.trans hraw

theorem State.fail_txq (k : FailCause) (pb : List Entry) : (s.fail k pb).txq = s.txq := by
  have hreport : (Safety.report s k).txq = s.txq := by
    unfold Safety.report
    split
    · exact State.checksumError_txq hfr
    · rfl
  rw [Safety.fail_eq]
  split <;> exact hreport

theorem State.verify_txq : s.verify.txq = s.txq := by
  rcases s.verify_cases with h | h
  · rw [h]; rfl
  · rw [h]; exact State.fail_txq hfr _ _

theorem State.lenByte_txq (v : Byte) : (s.lenByte v).txq = s.txq := by
  unfold State.lenByte
  dsimp only
  split
  · split
    · exact State.fail_txq (s := { s with cand := { s.cand with len := s.cand.len ++ [v] } }) hfr .length []
    · rfl
  · rfl

theorem State.payByte_txq (v : Byte) : (s.payByte v).txq = s.txq := by
  unfold State.payByte
  dsimp only
  split
  · split
    · exact State.fail_txq hfr .overlong []
    · rfl
  · split <;> rfl

theorem State.chkByte_txq (v : Byte) : (s.chkByte v).txq = s.txq := by
  unfold State.chkByte
  dsimp only
  split
  · exact State.verify_txq (s := { s with cand := { s.cand with chk := s.cand.chk ++ [v] } }) hfr
  · rfl

theorem State.dataByte_txq (v : Byte) : (s.dataByte v).txq = s.txq := by
  unfold State.dataByte
  split
  case h_2 => exact State.lenByte_txq hfr v
  case h_3 => exact State.payByte_txq hfr v
  case h_4 => exact State.fail_txq hfr .endMark []
  case h_5 => exact State.chkByte_txq hfr v
  all_goals rfl

theorem State.plainStep_txq (e : Entry) : (s.plainStep e).txq = s.txq := by
  rcases s.plainStep_cases e with ⟨_, h⟩ | ⟨_, h⟩ | ⟨_, h⟩ | ⟨_, h⟩
  · rw [h, State.plainHunt]
    dsimp only
    split
    · rfl
    · split
      · split <;> rfl
      · exact s.discardByte_txq _ _
  · rw [h, State.plainSync]
    split
    · exact s.discardByte_txq s.sync0 false
    · rfl
  · rw [h, State.plainCand]
    split
    · exact State.fail_txq hfr .gap [e]
    · split
      · exact State.fail_txq hfr .char [e]
      · exact State.dataByte_txq (s := { s with cand := { s.cand with ents := s.cand.ents ++ [e] } }) hfr e.b
  · rw [h]

theorem State.inCandidate_txq (t : Token) : (s.inCandidate t).txq = s.txq := by
  cases t with
  | start => exact State.fail_txq hfr .restart []
  | data v escd => exact State.dataByte_txq hfr v
  | badEsc v => exact State.fail_txq hfr .escape []
  | endMark =>
    simp only [State.inCandidate]
    split
    · rfl
    · split
      · split
        · exact State.fail_txq hfr .length []
        · rfl
      · exact State.fail_txq hfr .endMark []

omit hfr in
theorem State.outside_txq (s : State) (t : Token) : (s.outside t).txq = s.txq := by
  cases t with
  | start => rfl
  | data v escd => exact s.discardByte_txq v escd
  | endMark => exact s.discardByte_txq s.etxb true
  | badEsc v => exact s.discardByte_txq v true

theorem State.afterGap_txq (e : Entry) : (s.afterGap e).txq = s.txq := by
  unfold State.afterGap State.stuffedGap
  split
  · split
    · exact State.fail_txq hfr .gap []
    · split <;> rfl
  · rfl

theorem State.stuffedErr_txq : s.stuffedErr.txq = s.txq := by
  unfold State.stuffedErr
  dsimp only
  split
  · exact State.fail_txq hfr .char []
  · split <;> rfl

theorem State.stuffedByte_txq (b : Byte) : (s.stuffedByte b).txq = s.txq := by
  unfold State.stuffedByte
  split
  · rfl
  · dsimp only
    split
    · exact State.inCandidate_txq (s := { s with escp := false }) hfr _
    · exact State.outside_txq { s with escp := false } _

theorem State.handleEntry_txq (e : Entry) : (s.handleEntry e).txq = s.txq := by
  have hgap : (s.afterGap e).txfr = true :=
    (congrArg State.txfr (s.afterGap_outsideDecoder e)).trans hfr
  rw [State.handleEntry, State.stuffedStep_eq]
  split
  · split
    · exact (State.stuffedErr_txq hgap).trans (State.afterGap_txq hfr e)
    · exact (State.stuffedByte_txq hgap e.b).trans (State.afterGap_txq hfr e)
  · exact State.plainStep_txq hfr e

theorem State.rxtStep_txq : s.rxtStep.txq = s.txq := by
  unfold State.rxtStep
  split
  · split
    · exact s.discardByte_txq s.sync0 false
    · exact State.fail_txq hfr .timeout []
  · rfl

end InFrame

end Sys2Proof.Machine

/-! SUPPORT. A frame in transmission (43_transmit.md R195 to R200): what LINEOUT will hold when it has been sent, which every move
of an agent keeps, and the end that the moves come to. -/

namespace Sys2Proof.Machine

open Sys2Proof.Safety

/-! ## The transmitter's part of the state -/

/-- An operation of the decoder that leaves TXQ alone leaves the whole transmitter alone. -/
theorem State.transmitter_of_outsideDecoder {s t : State} (h : t.outsideDecoder = s.outsideDecoder) (hq : t.txq = s.txq) :
    t.transmitter = s.transmitter := by
  have hview (u : State) : u.transmitter = { u.outsideDecoder.transmitter with txq := u.txq } := rfl
  rw [hview t, hview s, h, hq]

theorem State.lineStep_transmitter (s : State) (e : Entry) : (s.lineStep e).transmitter = s.transmitter := by
  unfold State.lineStep
  split
  · exact s.arrive_transmitter e .ext
  · rfl

theorem State.handleEntry_transmitter {s : State} (hfr : s.txfr = true) (e : Entry) :
    (s.handleEntry e).transmitter = s.transmitter :=
  State.transmitter_of_outsideDecoder (s.handleEntry_outsideDecoder e) (State.handleEntry_txq hfr e)

theorem State.frxStep_transmitter {s : State} (hfr : s.txfr = true) : s.frxStep.transmitter = s.transmitter := by
  cases hen : s.frxEnabled with
  | false => rw [State.frxStep, hen, if_neg Bool.false_ne_true]
  | true =>
    rcases State.frxStep_of_enabled hen with ⟨e, rest, _, h⟩ | ⟨e, rest, _, _, h⟩
    · rw [h]; exact State.handleEntry_transmitter (s := { s with replay := rest }) hfr e
    · rw [h]; exact State.handleEntry_transmitter (s := { s with rxfifo := rest }) hfr e

theorem State.rxtStep_transmitter {s : State} (hfr : s.txfr = true) : s.rxtStep.transmitter = s.transmitter :=
  State.transmitter_of_outsideDecoder s.rxtStep_outsideDecoder (State.rxtStep_txq hfr)

/-! ## Sending -/

/-- A frame is in transmission, and nothing stops the transmitter. -/
structure Sending (s : State) : Prop where
  resetIn : s.resetIn = false
  en : s.en = true
  txen : s.txen = true
  txfr : s.txfr = true
  busy : s.txq ≠ [] ∨ s.txsh ≠ none

/-- The frame has been sent completely, and TXDONE is signalled. -/
structure FrameSent (s : State) : Prop where
  txfr : s.txfr = false
  txq : s.txq = []
  txsh : s.txsh = none
  txdone : s.sticky.getLsbD 3 = true

/-- LINEOUT when all that is to be sent has been sent; in loopback nothing is appended to it (R200). -/
def State.lineOutAtEnd (s : State) : List Byte :=
  if s.loop then s.lineOut else s.lineOut ++ s.txsh.toList ++ s.txq

/-- The steps of TXU that are left. -/
def State.txLeft (s : State) : Nat := 2 * s.txq.length + s.txsh.toList.length

/-- The frame goes on to the same end, or has come to it. -/
def Proceeds (s t : State) : Prop := t.lineOutAtEnd = s.lineOutAtEnd ∧ (Sending t ∨ FrameSent t)

/-! Each of these goes by the transmitter's part of the state alone. -/

section Congr

variable {s t : State} (e : t.transmitter = s.transmitter)

include e

theorem State.lineOutAtEnd_congr : t.lineOutAtEnd = s.lineOutAtEnd :=
  show t.transmitter.lineOutAtEnd = s.transmitter.lineOutAtEnd by rw [e]

theorem State.txLeft_congr : t.txLeft = s.txLeft := show t.transmitter.txLeft = s.transmitter.txLeft by rw [e]

theorem Sending.congr (h : Sending s) : Sending t :=
  have hview : Sending s.transmitter := { h with }
  have hview' : Sending t.transmitter := e ▸ hview
  { hview' with }

theorem Sending.proceeds_of_transmitter (h : Sending s) : Proceeds s t :=
  ⟨State.lineOutAtEnd_congr e, .inl (h.congr e)⟩

end Congr

theorem FrameSent.lineOut_eq {s : State} (h : FrameSent s) : s.lineOut = s.lineOutAtEnd := by
  rw [State.lineOutAtEnd, h.txq, h.txsh]
  split
  · rfl
  · rw [Option.toList_none, List.append_nil, List.append_nil]

section Sending

variable {s : State} (h : Sending s)

include h

/-- An enabled LOAD. -/
theorem Sending.loadStep (hsh : s.txsh = none) : Proceeds s s.loadStep ∧ s.loadStep.txLeft < s.txLeft := by
  obtain ⟨b, rest, hq⟩ := List.exists_cons_of_ne_nil (h.busy.resolve_right fun hne => hne hsh)
  rw [State.loadStep_of_enabled h.en h.txen hsh hq]
  refine ⟨⟨?_, .inl { h with busy := .inr (Option.some_ne_none b) }⟩, ?_⟩
  · change (if s.loop then s.lineOut else s.lineOut ++ [b] ++ rest) = s.lineOutAtEnd
    rw [State.lineOutAtEnd, hsh, hq, Option.toList_none, List.append_nil, List.append_assoc]
    rfl
  · change 2 * rest.length + 1 < s.txLeft
    rw [State.txLeft, hq, List.length_cons]
    omega

/-- The end of an EMIT: the character has left, and the frame ends with the last of its characters. -/
theorem Sending.endFrame {u : State} {out : List Byte}
    (hu : u.transmitter = State.transmitter { s with txsh := none, lineOut := out })
    (hout : (if s.loop then out else out ++ s.txq) = s.lineOutAtEnd) :
    Proceeds s u.endFrame ∧ u.endFrame.txLeft = 2 * s.txq.length := by
  have hend : u.lineOutAtEnd = s.lineOutAtEnd := by
    refine (State.lineOutAtEnd_congr hu).trans (Eq.trans ?_ hout)
    change (if s.loop then out else out ++ [] ++ s.txq) = _
    rw [List.append_nil]
  have hleft : u.txLeft = 2 * s.txq.length := State.txLeft_congr hu
  by_cases hq : s.txq = []
  · have hlast : u.txfr = true ∧ u.txq = [] :=
      ⟨(congrArg State.txfr hu :).trans h.txfr, (congrArg State.txq hu :).trans hq⟩
    rw [State.endFrame_of_last hlast]
    refine ⟨⟨hend, .inr ⟨rfl, hlast.2, congrArg State.txsh hu, ?_⟩⟩, hleft⟩
    rw [BitVec.getLsbD_or]
    exact Bool.or_true _
  · have hmore : ¬(u.txfr = true ∧ u.txq = []) := fun hlast => hq ((congrArg State.txq hu :).symm.trans hlast.2)
    have hsends : Sending { s with txsh := none, lineOut := out } := { h with busy := .inl hq }
    rw [State.endFrame_of_more hmore]
    exact ⟨⟨hend, .inl (Sending.congr hu hsends)⟩, hleft⟩

/-- An enabled EMIT, to the line or to the block's own receiver (R199, R200). -/
theorem Sending.emitStep {b : Byte} (hsh : s.txsh = some b) :
    Proceeds s s.emitStep ∧ s.emitStep.txLeft < s.txLeft := by
  have hemit : Proceeds s s.emitStep ∧ s.emitStep.txLeft = 2 * s.txq.length := by
    cases hloop : s.loop with
    | false =>
      rw [State.emitStep_of_line h.en hsh hloop]
      refine h.endFrame (out := s.lineOut ++ [b]) rfl ?_
      rw [State.lineOutAtEnd, hloop, hsh]
      rfl
    | true =>
      rw [State.emitStep_of_loop h.en hsh hloop]
      refine h.endFrame (out := s.lineOut) (State.arrive_transmitter _ _ _) ?_
      rw [State.lineOutAtEnd, hloop]
      rfl
  obtain ⟨hproceeds, hleft⟩ := hemit
  refine ⟨hproceeds, ?_⟩
  rw [hleft, State.txLeft, hsh]
  exact Nat.lt_succ_self _

theorem Sending.agentMove {m : Move} (hm : ofAgent m = true) : Proceeds s (agentMove m s) := by
  have hreset : ¬s.resetIn = true := by rw [h.resetIn]; exact Bool.false_ne_true
  cases m with
  | line e =>
    rw [Machine.agentMove, if_neg hreset]
    exact Sending.proceeds_of_transmitter (s.lineStep_transmitter e) h
  | load =>
    rw [agentMove_load h.resetIn]
    by_cases hsh : s.txsh = none
    · exact (h.loadStep hsh).1
    · rw [State.loadStep_of_disabled (.inr (.inr (.inl hsh)))]
      exact Sending.proceeds_of_transmitter rfl h
  | emit =>
    rw [agentMove_emit h.resetIn]
    cases hsh : s.txsh with
    | some b => exact (h.emitStep hsh).1
    | none =>
      rw [State.emitStep_of_disabled (.inr hsh)]
      exact Sending.proceeds_of_transmitter rfl h
  | frx =>
    rw [Machine.agentMove, if_neg hreset]
    exact Sending.proceeds_of_transmitter (State.frxStep_transmitter h.txfr) h
  | rxt =>
    rw [Machine.agentMove, if_neg hreset]
    exact Sending.proceeds_of_transmitter (State.rxtStep_transmitter h.txfr) h
  | host w => cases hm
  | assertReset => cases hm
  | releaseReset => cases hm

end Sending

/-! ## To the end of the frame -/

/-- The machine reaches a state in which the frame has been sent, and LINEOUT holds what was to be sent. -/
def SendsAll (s : State) : Prop := ∃ n t, runs n s t ∧ FrameSent t ∧ t.lineOut = s.lineOutAtEnd

theorem SendsAll.of_step {s t : State} (hstep : step s = .next t) (hproceeds : Proceeds s t) (hrest : Sending t → SendsAll t) :
    SendsAll s := by
  obtain ⟨hend, hsends | hsent⟩ := hproceeds
  · obtain ⟨n, u, hruns, hsent, hout⟩ := hrest hsends
    exact ⟨n + 1, u, runs_succ_iff.2 ⟨t, hstep, hruns⟩, hsent, hout.trans hend⟩
  · exact ⟨1, t, runs_succ_iff.2 ⟨t, hstep, rfl⟩, hsent, hsent.lineOut_eq.trans hend⟩

/-- The measure of a frame in transmission once nothing is scheduled: TXU's steps, and between them those of FRX. -/
def State.sendMeasure (s : State) : ℕ ×ₗ ℕ ×ₗ ℕ ×ₗ ℕ ×ₗ ℕ := toLex (s.txLeft, s.frxMeasure)

theorem State.sendMeasure_lt_of_txLeft {s t : State} (h : t.txLeft < s.txLeft) : t.sendMeasure < s.sendMeasure :=
  Prod.Lex.toLex_lt_toLex.2 (.inl h)

theorem State.sendMeasure_lt_of_frx {s t : State} (h : t.txLeft = s.txLeft) (hfrx : t.frxMeasure < s.frxMeasure) :
    t.sendMeasure < s.sendMeasure :=
  Prod.Lex.toLex_lt_toLex.2 (.inr ⟨h, hfrx⟩)

/-- With nothing scheduled, FRX takes what it can take, and then EMIT or LOAD moves the frame on. -/
theorem Sending.step_unscheduled {s : State} (h : Sending s) (hs : s.sched = []) :
    ∃ t, step s = .next t ∧ Proceeds s t ∧ t.sendMeasure < s.sendMeasure := by
  by_cases hfrx : enabled .frx s
  · have hstep := step_internal hs (internalMove_frx hfrx)
    have hkept : (Machine.agentMove .frx s).txLeft = s.txLeft := by
      rw [Machine.agentMove, h.resetIn, if_neg Bool.false_ne_true]
      exact State.txLeft_congr (State.frxStep_transmitter h.txfr)
    exact ⟨_, hstep, h.agentMove rfl, State.sendMeasure_lt_of_frx hkept (step_frx_lowers hs hfrx hstep)⟩
  · cases hsh : s.txsh with
    | some b =>
      have hemit : enabled .emit s := ⟨h.resetIn, h.en, by rw [hsh]; exact Option.some_ne_none b⟩
      have hstep := step_internal hs (internalMove_emit hfrx hemit)
      obtain ⟨hproceeds, hleft⟩ := h.emitStep hsh
      rw [agentMove_emit h.resetIn] at hstep
      exact ⟨_, hstep, hproceeds, State.sendMeasure_lt_of_txLeft hleft⟩
    | none =>
      have hemit : ¬enabled .emit s := fun ⟨_, _, hbusy⟩ => hbusy hsh
      have hload : enabled .load s := ⟨h.resetIn, h.en, h.txen, hsh, h.busy.resolve_right fun hne => hne hsh⟩
      have hstep := step_internal hs (internalMove_load hfrx hemit hload)
      obtain ⟨hproceeds, hleft⟩ := h.loadStep hsh
      rw [agentMove_load h.resetIn] at hstep
      exact ⟨_, hstep, hproceeds, State.sendMeasure_lt_of_txLeft hleft⟩

theorem Sending.sendsAll_unscheduled {s : State} (h : Sending s) (hs : s.sched = []) : SendsAll s := by
  induction hm : s.sendMeasure using WellFoundedLT.induction generalizing s with
  | ind m ih =>
    obtain ⟨t, hstep, hproceeds, hlt⟩ := h.step_unscheduled hs
    have hsched : t.sched = [] := by rw [step_sched hstep, hs, List.tail_nil]
    exact .of_step hstep hproceeds fun hsends => ih t.sendMeasure (hm ▸ hlt) hsends hsched rfl

/-- Whatever moves of the agents are scheduled, the frame is sent to its end. -/
theorem Sending.sendsAll {s : State} (h : Sending s) (hms : ∀ m ∈ s.sched, ofAgent m = true) : SendsAll s := by
  induction hs : s.sched generalizing s with
  | nil => exact h.sendsAll_unscheduled hs
  | cons m ms ih =>
    rw [hs] at hms
    have hm : ofAgent m = true := hms m List.mem_cons_self
    have hhost (w : HostWord) : m ≠ .host w := by
      rintro rfl
      cases hm
    have hrest : Sending { s with sched := ms } := { h with }
    refine .of_step (step_agent hs hhost) (hrest.agentMove hm) fun hsends => ?_
    have hsched : (Machine.agentMove m { s with sched := ms }).sched = ms := agentMove_sched m _
    exact ih hsends (by rw [hsched]; exact fun m' hm' => hms m' (List.mem_cons_of_mem m hm')) hsched

/-! ## LOAD and EMIT by turns -/

/-- One character by LOAD and EMIT, with no other move between. -/
theorem runs_load_emit {s : State} (hr : s.resetIn = false) (hen : s.en = true) (htx : s.txen = true)
    (hloop : s.loop = false) (hsh : s.txsh = none) {b : Byte} {rest : List Byte} (hq : s.txq = b :: rest) (ms : List Move) :
    runs 2 { s with sched := .load :: .emit :: ms }
      (State.endFrame { s with txq := rest, txsh := none, lineOut := s.lineOut ++ [b], sched := ms }) := by
  have hload : step { s with sched := .load :: .emit :: ms } =
      .next { s with txsh := some b, txq := rest, sched := .emit :: ms } := by
    rw [step_agent rfl fun _ => Move.noConfusion, agentMove_load (s := { s with sched := .emit :: ms }) hr,
      State.loadStep_of_enabled (s := { s with sched := .emit :: ms }) hen htx hsh hq]
  have hemit : step { s with txsh := some b, txq := rest, sched := .emit :: ms } =
      .next (State.endFrame { s with txq := rest, txsh := none, lineOut := s.lineOut ++ [b], sched := ms }) := by
    rw [step_agent rfl fun _ => Move.noConfusion,
      agentMove_emit (s := { s with txsh := some b, txq := rest, sched := ms }) hr,
      State.emitStep_of_line (s := { s with txsh := some b, txq := rest, sched := ms }) hen rfl hloop]
  exact runs_succ_iff.2 ⟨_, hload, runs_succ_iff.2 ⟨_, hemit, rfl⟩⟩

/-- The queued characters of a frame leave in order, two steps each, and the last of them ends it. -/
theorem runs_sendChars {s : State} (hr : s.resetIn = false) (hen : s.en = true) (htx : s.txen = true)
    (hloop : s.loop = false) (hfr : s.txfr = true) (hsh : s.txsh = none) {q : List Byte} (hq : s.txq = q) (hne : q ≠ []) :
    runs (2 * q.length) { s with sched := sendChars q.length }
      { s with
        sched := [], txq := [], txsh := none, txfr := false, lineOut := s.lineOut ++ q
        sticky := s.sticky ||| 0x0008#14 } := by
  induction q generalizing s with
  | nil => exact absurd rfl hne
  | cons b rest ih =>
    have hfirst := runs_load_emit hr hen htx hloop hsh hq (sendChars rest.length)
    rw [List.length_cons, Nat.mul_succ, Nat.add_comm]
    refine runs_add hfirst ?_
    cases rest with
    | nil =>
      rw [State.endFrame_of_last (s := { s with txq := [], txsh := none, lineOut := _, sched := _ }) ⟨hfr, rfl⟩]
      rfl
    | cons b' rest' =>
      have hrest := ih (s := { s with txq := b' :: rest', txsh := none, lineOut := s.lineOut ++ [b] }) hr hen htx hloop hfr rfl
        rfl (List.cons_ne_nil _ _)
      rw [State.endFrame_of_more fun hlast => List.cons_ne_nil b' rest' hlast.2]
      rwa [List.append_assoc] at hrest

end Sys2Proof.Machine

namespace Sys2Proof.Proofs

open Sys2Proof.Machine Sys2Proof.Safety

/-- Settles O39. In the schedule of LOAD and EMIT alone by induction over the queue; in any schedule since every move keeps what
LINEOUT will hold at the end, and after the schedule TXU's steps are not put off for ever. -/
theorem queuedFrameIsSentInOrder : Obligations.QueuedFrameIsSentInOrder := by
  unfold Obligations.QueuedFrameIsSentInOrder
  refine ⟨fun s hr hen htx hloop hfr hsh hne => ?alone, fun s ms hinv hr hen htx hfr hms => ?anySchedule⟩
  case alone =>
    have hruns := runs_sendChars hr hen htx hloop hfr hsh rfl hne
    rwa [← hsh] at hruns
  case anySchedule =>
    obtain ⟨_, _, hbusy⟩ := hinv.tx
    have hsends : Sending { s with sched := ms } :=
      ⟨hr, hen, htx, hfr, (hbusy hfr).imp_right Option.isSome_iff_ne_none.1⟩
    obtain ⟨n, t, hruns, hsent, hout⟩ := hsends.sendsAll hms
    exact ⟨n, t, hruns, hsent.txfr, hsent.txq, hsent.txsh, hsent.txdone, hout⟩

end Sys2Proof.Proofs

/-! SUPPORT. The entry that FRX's step takes (44_receive.md R220, R222, R243), and REPLAY's part in the measure of R242. -/

namespace Sys2Proof.Machine

open Sys2Proof.Safety

/-- The step handles the entry that comes next, in the state with it taken. -/
theorem agentMove_frx_of_takesInput {s u : State} {e : Entry} (hr : s.resetIn = false) (hen : s.en = true)
    (hfrmen : s.frmen = true) (hhold : s.fstate ≠ .hold) (h : takesInput s e u) :
    agentMove .frx s = u.handleEntry e := by
  rw [agentMove, hr, if_neg Bool.false_ne_true]
  rcases h with ⟨rest, hreplay, rfl⟩ | ⟨hnil, rest, hrxfifo, rfl⟩
  · have henabled : s.frxEnabled = true := s.frxEnabled_iff.2 ⟨hen, hfrmen, hhold, .inl (by simp [hreplay])⟩
    simp only [State.frxStep, henabled, State.nextEntry, hreplay, if_true]
    rfl
  · have henabled : s.frxEnabled = true := s.frxEnabled_iff.2 ⟨hen, hfrmen, hhold, .inr (by simp [hrxfifo])⟩
    simp only [State.frxStep, henabled, State.nextEntry, hnil, hrxfifo, if_true]
    rfl

/-- Taking the entry changes nothing but the queue it comes from. -/
theorem queues_of_takesInput {s u : State} {e : Entry} (h : takesInput s e u) :
    ∃ replay rxfifo, u = { s with replay := replay, rxfifo := rxfifo } := by
  rcases h with ⟨rest, _, hu⟩ | ⟨_, rest, _, hu⟩
  · exact ⟨rest, s.rxfifo, hu⟩
  · exact ⟨s.replay, rest, hu⟩

end Sys2Proof.Machine

namespace Sys2Proof.Safety

open Sys2Proof.Machine

theorem candBytes_pos (s : State) : 0 < candBytes s := by
  have hsync : 0 < s.nsync := by
    unfold State.nsync
    split <;> decide
  unfold candBytes
  omega

/-- An unstuffed candidate, and the sync pair before it, has an entry in CAND. -/
theorem Record.ents_ne_nil {s : State} (r : Record 0 s) (hs : s.stuffed = false) (hhunt : s.fstate ≠ .hunt)
    (hhold : s.fstate ≠ .hold) : s.cand.ents ≠ [] := by
  refine List.ne_nil_of_length_pos ?_
  cases hcand : s.fstate.isCand with
  | true =>
    rw [count_of_record r hs hcand]
    exact candBytes_pos s
  | false =>
    have hsync : s.fstate = .sync := by
      cases hf : s.fstate with
      | sync => rfl
      | hunt => exact absurd hf hhunt
      | hold => exact absurd hf hhold
      | _ => rw [hf] at hcand; cases hcand
    obtain ⟨_, _, hone⟩ := r.of_sync hsync
    rw [hone]
    exact Nat.one_pos

end Sys2Proof.Safety

namespace Sys2Proof.Proofs

open Sys2Proof.Machine Sys2Proof.Safety

/-- Settles O57, by how handling the entry can end for CAND and REPLAY (`EntryHandled`). Of its cases the invariant excludes
the one that puts an entry back though CAND is empty. -/
theorem replayStepsLowerTheMeasure : Obligations.ReplayStepsLowerTheMeasure := by
  unfold Obligations.ReplayStepsLowerTheMeasure
  intro s hinv hr hen hne
  obtain ⟨e, rest, hreplay⟩ := List.exists_cons_of_ne_nil hne
  obtain ⟨hopen, hfrmen, hhold, _⟩ := s.frxEnabled_iff.1 hen
  obtain ⟨framed, record⟩ := hinv.decoding hopen hfrmen
  have hunstuffed : s.stuffed = false := Bool.eq_false_iff.2 fun hs => hne (framed.stuffed_nil hs).1
  have hlen : s.replay.length = rest.length + 1 := by rw [hreplay, List.length_cons]
  rw [agentMove_frx_of_takesInput hr hopen hfrmen hhold (.inl ⟨rest, hreplay, rfl⟩)]
  have hhandled := State.handleEntry_entryHandled { s with replay := rest } e
  generalize State.handleEntry { s with replay := rest } e = t at hhandled
  cases hhandled with
  | taken hheld hrest =>
    dsimp only [State.held] at hheld hrest
    omega
  | lost hheld =>
    dsimp only [State.held] at hheld
    omega
  | putBack hnil hhunt => exact absurd hnil (record.ents_ne_nil hunstuffed hhunt hhold)

end Sys2Proof.Proofs

/-! SUPPORT. A framing error (44_receive.md R236, R237), the out-of-band capture (R239, R240) and a character that arrives
(R211 to R214), one equation per outcome. -/

namespace Sys2Proof.Machine

/-! ## Framing errors -/

/-- A failure with a framing error is the error, and then what every failure does to CAND and REPLAY (R237). -/
theorem State.fail_framing {s : State} {k : FailCause} (hk : k ≠ .checksum) (pb : List Entry) :
    s.fail k pb = { s with
      cntFrm := s.cntFrm + 1#16
      sticky := s.sticky ||| 0x0004#14
      frmCause := k.code
      replay := if s.stuffed then s.replay else s.cand.ents.tail ++ pb ++ s.replay
      cand := Candidate.cleared
      escp := false
      fstate := .hunt } := by
  have hreport : Safety.report s k = s.framingError k := if_neg (mt beq_iff_eq.1 hk)
  rw [Safety.fail_eq, hreport, State.framingError_stuffed]
  cases s.stuffed <;> rfl

/-! ## Out-of-band capture -/

section Oob

variable {s : State} (v : Byte) (x : Bool)

theorem State.oob_of_off (h : s.ooben = false) : s.oob v x = s := by
  rw [State.oob, h]
  rfl

theorem State.oob_of_full (h : s.ooben = true) (hfull : s.oobq.length = 8) :
    s.oob v x = { s with sticky := s.sticky ||| 0x0800#14 } := by
  rw [State.oob, h, hfull]
  rfl

theorem State.oob_of_room (h : s.ooben = true) (hroom : s.oobq.length ≠ 8) :
    s.oob v x = { s with oobq := s.oobq ++ [{ byte := v, escd := x }] } := by
  have hnot : ¬(s.oobq.length == Config.oobDepth) = true := mt beq_iff_eq.1 hroom
  rw [State.oob, h, if_neg hnot]
  rfl

end Oob

/-- A discarded byte counts with the ESC before it, where there was one (R239). -/
theorem State.discardByte_eq (s : State) (v : Byte) (x : Bool) :
    s.discardByte v x = { s with cntDisc := s.cntDisc + (if x then 2#16 else 1#16) }.oob v x := by
  cases x <;> rfl

/-! ## Arriving characters -/

theorem State.hasParity_iff (s : State) : s.hasParity = true ↔ s.parity = 1#2 ∨ s.parity = 2#2 := by
  simp only [State.hasParity, Bool.or_eq_true, beq_iff_eq]

theorem State.lineAllowed_iff (s : State) (e : Entry) :
    s.lineAllowed e = true ↔
      e.gap = false ∧ (e.pe = true → s.parity = 1#2 ∨ s.parity = 2#2) ∧
        (e.brk = true → e.b = 0#8 ∧ e.pe = false ∧ e.se = false) := by
  simp only [State.lineAllowed, Bool.and_eq_true, not_or_eq_true_iff, s.hasParity_iff, beq_iff_eq, Bool.not_eq_true',
    and_assoc]

section Arrive

variable {s : State} (e : Entry)

theorem State.takeChar_of_full (h : s.rxfifo.length = 64) :
    s.takeChar e = { s with gapPend := true, sticky := s.sticky ||| 0x0010#14 } := by
  rcases s.takeChar_cases e with ⟨_, heq⟩ | ⟨hne, _⟩
  · exact heq
  · exact absurd h hne

/-- The events of a character's flags are those of the flags one after the other. -/
theorem State.takeChar_of_room (h : s.rxfifo.length ≠ 64) :
    s.takeChar e = { s with
      rxfifo := s.rxfifo ++ [{ e with gap := s.gapPend }], gapPend := false
      sticky := s.sticky ||| (if e.pe then 0x0020#14 else 0#14) ||| (if e.se then 0x0040#14 else 0#14) |||
        (if e.brk then 0x0080#14 else 0#14) } := by
  have hsignalIf (t : State) (c : Bool) (x : Event) :
      t.signalIf c x = { t with sticky := t.sticky ||| if c then 1#14 <<< x.code else 0#14 } := by
    cases c
    · rw [if_neg Bool.false_ne_true, BitVec.or_zero]
      rfl
    · rfl
  have hnot : ¬(s.rxfifo.length == Config.rxfifoDepth) = true := mt beq_iff_eq.1 h
  simp only [State.takeChar, if_neg hnot, hsignalIf]
  rfl

variable (src : CharSource)

theorem State.arrive_of_off (h : s.en = false ∨ s.rxen = false) : s.arrive e src = s := by
  rcases s.arrive_cases e src with heq | ⟨hen, hrxen, _⟩
  · exact heq
  · rcases h with h | h
    · exact nomatch hen.symm.trans h
    · exact nomatch hrxen.symm.trans h

theorem State.arrive_of_otherSource (h : ¬(src = .loopback ↔ s.loop = true)) : s.arrive e src = s := by
  unfold State.arrive
  split
  · rfl
  · split
    · rfl
    · rfl
    next hloop => exact absurd (by simp [hloop]) h
    next hloop => exact absurd (by simp [hloop]) h

theorem State.arrive_of_taken (hen : s.en = true) (hrxen : s.rxen = true) (h : src = .loopback ↔ s.loop = true) :
    s.arrive e src = s.takeChar e := by
  have hon : ¬(!s.en || !s.rxen) = true := by simp [hen, hrxen]
  unfold State.arrive
  rw [if_neg hon]
  split
  next hloop => exact absurd (h.2 hloop) (by decide)
  next hloop => exact absurd (h.1 rfl) (by simp [hloop])
  · rfl
  · rfl

end Arrive

end Sys2Proof.Machine

namespace Sys2Proof.Proofs

open Sys2Proof.Machine

/-- Settles O45 (`State.fail_framing`); the codes are those of R34. -/
theorem framingErrorRecordsAndReplays : Obligations.FramingErrorRecordsAndReplays := by
  unfold Obligations.FramingErrorRecordsAndReplays
  intro s k pb hk
  rw [State.fail_framing hk]
  cases k <;> rfl

/-- Settles O43. -/
theorem outOfBandBytesAreCaptured : Obligations.OutOfBandBytesAreCaptured := by
  unfold Obligations.OutOfBandBytesAreCaptured
  exact fun s v x => ⟨State.oob_of_off v x, State.oob_of_full v x, State.oob_of_room v x⟩

/-- Settles O41: the character is lost by its path or its source, or the receiver takes it with RXFIFO full or not. -/
theorem arrivingCharacterEntersRxfifo : Obligations.ArrivingCharacterEntersRxfifo := by
  unfold Obligations.ArrivingCharacterEntersRxfifo
  refine ⟨fun s e src h => State.arrive_of_off e src h, fun s e hloop => ?ext, fun s e hloop => ?loopback,
    fun s e src hen hrxen hsrc hfull => ?full, fun s e src hen hrxen hsrc hroom => ?room, fun s e => ⟨?mayArrive, ?mayNot⟩⟩
  case ext => exact State.arrive_of_otherSource e .ext (by simp [hloop])
  case loopback => exact State.arrive_of_otherSource e .loopback (by simp [hloop])
  case full => rw [State.arrive_of_taken e src hen hrxen hsrc, State.takeChar_of_full e hfull]
  case room => rw [State.arrive_of_taken e src hen hrxen hsrc, State.takeChar_of_room e hroom]
  case mayArrive =>
    intro hr hallowed
    rw [agentMove, hr, if_neg Bool.false_ne_true, State.lineStep, if_pos ((s.lineAllowed_iff e).2 hallowed)]
  case mayNot =>
    rintro (hr | hallowed)
    · rw [agentMove, if_pos hr]
    · exact ite_resetIn_eq_self (if_neg (mt (s.lineAllowed_iff e).1 hallowed))

end Sys2Proof.Proofs

/-! SUPPORT. The unstuffed steps of FRX (44_receive.md R223, R224, R226) and the receive timeout (R245), one equation per
outcome. -/

namespace Sys2Proof.Machine

open Sys2Proof.Safety

/-! ## Flags -/

theorem Entry.err_iff (e : Entry) : e.err = true ↔ e.pe = true ∨ e.se = true ∨ e.brk = true := by
  simp only [Entry.err, Bool.or_eq_true, or_assoc]

theorem Entry.err_of_clean {e : Entry} (hpe : e.pe = false) (hse : e.se = false) (hbrk : e.brk = false) :
    e.err = false := by
  rw [Entry.err, hpe, hse, hbrk]
  rfl

/-! ## Hunting -/

section Hunt

variable {s : State} {e : Entry}

theorem State.plainHunt_of_err (h : e.err = true) : s.plainHunt e = { s with cntDisc := s.cntDisc + 1#16 } := by
  rw [State.plainHunt, if_pos h]
  rfl

theorem State.plainHunt_of_sync0 (hclean : e.err = false) (hb : e.b = s.sync0) :
    s.plainHunt e =
      if s.nsync2 then { s with fstate := .sync, cand := { s.cand with ents := [{ e with gap := false }] } }
      else State.start { s with cand := { s.cand with ents := [{ e with gap := false }] } } := by
  simp only [State.plainHunt, hclean, Bool.false_eq_true, if_false, hb, beq_self_eq_true, if_true]

theorem State.plainHunt_of_other (hclean : e.err = false) (hb : e.b ≠ s.sync0) :
    s.plainHunt e = { s with cntDisc := s.cntDisc + 1#16 }.oob e.b false := by
  have hnot : ¬(e.b == s.sync0) = true := mt beq_iff_eq.1 hb
  simp only [State.plainHunt, hclean, Bool.false_eq_true, if_false, if_neg hnot, State.discardByte_eq]

end Hunt

/-! ## The second sync byte, and the bytes of a candidate -/

section Sync

variable {s : State} {e : Entry}

theorem State.plainSync_of_dropped (h : e.gap = true ∨ e.err = true ∨ e.b ≠ s.sync1) :
    s.plainSync e = { s.discardByte s.sync0 false with
      cand := Candidate.cleared, fstate := .hunt, replay := e :: s.replay } := by
  have hdropped : (e.gap || e.err || e.b != s.sync1) = true := by
    simpa only [Bool.or_eq_true, bne_iff_ne, or_assoc] using h
  obtain ⟨_, hreplay⟩ := s.discardByte_decoder s.sync0 false
  simp only [State.plainSync, hdropped, if_true, hreplay]

theorem State.plainSync_of_sync1 (hgap : e.gap = false) (hclean : e.err = false) (hb : e.b = s.sync1) :
    s.plainSync e = State.start { s with cand := { s.cand with ents := s.cand.ents ++ [e] } } := by
  simp only [State.plainSync, hgap, hclean, hb, bne_self_eq_false, Bool.or_self, Bool.false_eq_true, if_false]

theorem State.plainCand_of_gap (h : e.gap = true) : s.plainCand e = s.fail .gap [e] := by
  rw [State.plainCand, if_pos h]

theorem State.plainCand_of_err (hgap : e.gap = false) (h : e.err = true) : s.plainCand e = s.fail .char [e] := by
  rw [State.plainCand, hgap, if_neg Bool.false_ne_true, if_pos h]

theorem State.plainCand_of_clean (hgap : e.gap = false) (h : e.err = false) :
    s.plainCand e = State.dataByte { s with cand := { s.cand with ents := s.cand.ents ++ [e] } } e.b := by
  rw [State.plainCand, hgap, if_neg Bool.false_ne_true, h, if_neg Bool.false_ne_true]

end Sync

/-! ## The step by FSTATE -/

section Step

variable {s : State} (e : Entry)

theorem State.plainStep_of_hunt (h : s.fstate = .hunt) : s.plainStep e = s.plainHunt e := by
  rw [State.plainStep, h]

theorem State.plainStep_of_sync (h : s.fstate = .sync) : s.plainStep e = s.plainSync e := by
  rw [State.plainStep, h]

theorem State.plainStep_of_isCand (h : s.fstate.isCand = true) : s.plainStep e = s.plainCand e := by
  rcases s.plainStep_cases e with ⟨hf, _⟩ | ⟨hf, _⟩ | ⟨_, heq⟩ | ⟨hf, _⟩
  · rw [hf] at h; cases h
  · rw [hf] at h; cases h
  · exact heq
  · rw [hf] at h; cases h

/-- The step of an unstuffed profile handles the entry that comes next as FSTATE says. -/
theorem agentMove_frx_plain {u : State} {e : Entry} (hr : s.resetIn = false) (hen : s.en = true)
    (hfrmen : s.frmen = true) (hs : s.stuffed = false) (hhold : s.fstate ≠ .hold) (h : takesInput s e u) :
    agentMove .frx s = u.plainStep e := by
  have hu : u.stuffed = false := by
    obtain ⟨_, _, rfl⟩ := queues_of_takesInput h
    exact hs
  rw [agentMove_frx_of_takesInput hr hen hfrmen hhold h, State.handleEntry_unstuffed hu]

end Step

/-! ## The receive timeout, and the agents at rest -/

section Timeout

variable {s : State}

theorem State.rxtEnabled_iff (s : State) :
    s.rxtEnabled = true ↔
      s.en = true ∧ s.frmen = true ∧ s.timeout ≠ 0#16 ∧ (s.fstate = .sync ∨ s.fstate.isCand = true) ∧
        s.replay = [] ∧ s.rxfifo = [] := by
  simp only [State.rxtEnabled, Bool.and_eq_true, Bool.or_eq_true, bne_iff_ne, beq_iff_eq, List.isEmpty_iff, and_assoc]

theorem State.rxtStep_of_sync (henabled : s.rxtEnabled = true) (h : s.fstate = .sync) :
    s.rxtStep = { s.discardByte s.sync0 false with cand := Candidate.cleared, fstate := .hunt } := by
  simp only [State.rxtStep, henabled, h, beq_self_eq_true, if_true]

theorem State.rxtStep_of_isCand (henabled : s.rxtEnabled = true) (h : s.fstate.isCand = true) :
    s.rxtStep = s.fail .timeout [] := by
  have hnot : ¬(s.fstate == .sync) = true := by
    rw [beq_iff_eq]
    intro hf
    rw [hf] at h
    cases h
  rw [State.rxtStep, if_pos henabled, if_neg hnot]

theorem agentMove_rxt (hr : s.resetIn = false) : agentMove .rxt s = s.rxtStep := by
  rw [agentMove, hr, if_neg Bool.false_ne_true]

theorem State.rxtStep_of_disabled (h : ¬s.rxtEnabled = true) : s.rxtStep = s := if_neg h

theorem State.frxStep_of_disabled (h : ¬s.frxEnabled = true) : s.frxStep = s := if_neg h

end Timeout

end Sys2Proof.Machine

namespace Sys2Proof.Proofs

open Sys2Proof.Machine Sys2Proof.Safety

/-- Settles O42: the entry that comes next is handled as R223 says. -/
theorem unstuffedHuntFindsTheSyncByte : Obligations.UnstuffedHuntFindsTheSyncByte := by
  unfold Obligations.UnstuffedHuntFindsTheSyncByte
  intro s u e hr hen hfrmen hs hhunt hinput
  have hstep := agentMove_frx_plain hr hen hfrmen hs (by rw [hhunt]; decide) hinput
  obtain ⟨replay, rxfifo, rfl⟩ := queues_of_takesInput hinput
  have hhandled := hstep.trans (State.plainStep_of_hunt e hhunt)
  refine ⟨fun herr => ?flagged, fun hpe hse hbrk hb hn => ?pair, fun hpe hse hbrk hb hn => ?single,
    fun hpe hse hbrk hb => ?other⟩
  case flagged => exact hhandled.trans (State.plainHunt_of_err (e.err_iff.2 herr))
  case pair =>
    have htwo : s.nsync2 = true := s.nsync_eq_two_iff.1 hn
    exact (hhandled.trans (State.plainHunt_of_sync0 (Entry.err_of_clean hpe hse hbrk) hb)).trans (if_pos htwo)
  case single =>
    have hone : ¬s.nsync2 = true := Bool.eq_false_iff.1 (s.nsync_eq_one_iff.1 hn)
    exact (hhandled.trans (State.plainHunt_of_sync0 (Entry.err_of_clean hpe hse hbrk) hb)).trans (if_neg hone)
  case other => exact hhandled.trans (State.plainHunt_of_other (Entry.err_of_clean hpe hse hbrk) hb)

/-- Settles O44: the entry that comes next is handled as R224 says in SYNC and as R226 says in a candidate. -/
theorem unstuffedSyncAndCandidateErrors : Obligations.UnstuffedSyncAndCandidateErrors := by
  unfold Obligations.UnstuffedSyncAndCandidateErrors
  intro s u e hr hen hfrmen hs hinput
  have hstep (hhold : s.fstate ≠ .hold) := agentMove_frx_plain hr hen hfrmen hs hhold hinput
  obtain ⟨replay, rxfifo, rfl⟩ := queues_of_takesInput hinput
  have hsync (hf : s.fstate = .sync) := (hstep (by rw [hf]; decide)).trans (State.plainStep_of_sync e hf)
  have hcand (hf : s.fstate.isCand = true) :=
    (hstep (FState.ne_hold_of_isCand hf)).trans (State.plainStep_of_isCand e hf)
  refine ⟨fun hf hdropped => ?dropped, fun hf hgap hpe hse hbrk hb => ?started, fun hf hgap => ?gap,
    fun hf hgap herr => ?flagged, fun hf hgap hpe hse hbrk => ?data⟩
  case dropped =>
    have hdropped : e.gap = true ∨ e.err = true ∨ e.b ≠ s.sync1 := by
      rwa [e.err_iff, or_assoc, or_assoc]
    exact (hsync hf).trans (State.plainSync_of_dropped hdropped)
  case started => exact (hsync hf).trans (State.plainSync_of_sync1 hgap (Entry.err_of_clean hpe hse hbrk) hb)
  case gap => exact (hcand hf).trans (State.plainCand_of_gap hgap)
  case flagged => exact (hcand hf).trans (State.plainCand_of_err hgap (e.err_iff.2 herr))
  case data => exact (hcand hf).trans (State.plainCand_of_clean hgap (Entry.err_of_clean hpe hse hbrk))

/-- Settles O52: RXT's step where it is enabled; each condition of the resting clauses contradicts R220 or R245. -/
theorem receiveTimeoutAndRestingDecoder : Obligations.ReceiveTimeoutAndRestingDecoder := by
  unfold Obligations.ReceiveTimeoutAndRestingDecoder
  refine ⟨fun s hr hen hfrmen hto hreplay hrxfifo => ⟨fun hf => ?sync, fun hf => ?cand⟩,
    fun s h => ite_resetIn_eq_self (State.rxtStep_of_disabled ?rxtRests),
    fun s h => ite_resetIn_eq_self (State.frxStep_of_disabled ?frxRests)⟩
  case sync =>
    have henabled : s.rxtEnabled = true := s.rxtEnabled_iff.2 ⟨hen, hfrmen, hto, .inl hf, hreplay, hrxfifo⟩
    exact (agentMove_rxt hr).trans (State.rxtStep_of_sync henabled hf)
  case cand =>
    have henabled : s.rxtEnabled = true := s.rxtEnabled_iff.2 ⟨hen, hfrmen, hto, .inr hf, hreplay, hrxfifo⟩
    exact (agentMove_rxt hr).trans (State.rxtStep_of_isCand henabled hf)
  case rxtRests =>
    intro henabled
    obtain ⟨hen, hfrmen, hto, hf, hreplay, hrxfifo⟩ := s.rxtEnabled_iff.1 henabled
    rcases h with h | h | h | h | h | h | h
    · exact nomatch hen.symm.trans h
    · exact nomatch hfrmen.symm.trans h
    · exact hto h
    · simp [h, FState.isCand] at hf
    · simp [h, FState.isCand] at hf
    · exact h hreplay
    · exact h hrxfifo
  case frxRests =>
    intro henabled
    obtain ⟨hen, hfrmen, hhold, hinput⟩ := s.frxEnabled_iff.1 henabled
    rcases h with h | h | h | ⟨hreplay, hrxfifo⟩
    · exact nomatch hen.symm.trans h
    · exact nomatch hfrmen.symm.trans h
    · exact hhold h
    · exact hinput.elim (absurd hreplay) (absurd hrxfifo)

end Sys2Proof.Proofs

/-! SUPPORT. The logical bytes of a candidate (44_receive.md R227, R230 to R232): the length field as it declares the payload's
length, and the bytes that a candidate does not take. -/

namespace Sys2Proof.Machine

/-! ## The value of the length field (R111) -/

theorem State.rxPayLen_one {s : State} (hw : s.lenw = 1) (v : Byte) :
    s.rxPayLen [v] = v.toNat + s.lenAdj - s.ovh := by
  have hvalue : s.rxLength [v] = v.toNat := by
    rw [State.rxLength, hw]
    rfl
  rw [State.rxPayLen, hvalue]

theorem State.rxPayLen_two {s : State} (hw : s.lenw = 2) (w v : Byte) :
    s.rxPayLen [w, v] =
      (if s.lenbe then w.toNat * 256 + v.toNat else v.toNat * 256 + w.toNat : Nat) + s.lenAdj - s.ovh := by
  have hvalue : s.rxLength [w, v] = if s.lenbe then w.toNat * 256 + v.toNat else v.toNat * 256 + w.toNat := by
    rw [State.rxLength, hw]
    change (if s.lenbe then (w ++ v).toNat else (v ++ w).toNat) = _
    rw [toNat_append_eq_add, toNat_append_eq_add, Nat.mul_comm _ w.toNat, Nat.mul_comm _ v.toNat,
      show (2 : Nat) ^ 8 = 256 from rfl]
  rw [State.rxPayLen, hvalue]

/-! ## The byte by FSTATE (R227, R232) -/

section Byte

variable {s : State} (v : Byte)

theorem State.dataByte_of_addr (h : s.fstate = .addr) :
    s.dataByte v = { s with
      cand := { s.cand with addr := v }, fstate := if 0 < s.lenw then .len else .pay } := by
  rw [State.dataByte, h]

theorem State.dataByte_of_len (h : s.fstate = .len) : s.dataByte v = s.lenByte v := by
  rw [State.dataByte, h]

theorem State.dataByte_of_pay (h : s.fstate = .pay) : s.dataByte v = s.payByte v := by
  rw [State.dataByte, h]

theorem State.dataByte_of_trl (h : s.fstate = .trl) : s.dataByte v = s.fail .endMark [] := by
  rw [State.dataByte, h]

theorem State.payByte_of_overlong (hopen : s.cand.nexp = none) (hfull : s.cand.pay.length = 256) :
    s.payByte v = s.fail .overlong [] := by
  simp only [State.payByte, hopen]
  exact if_pos (beq_iff_eq.2 hfull)

theorem State.lenByte_of_refused {n : Int} (hlen : (s.cand.len ++ [v]).length = s.lenw)
    (hn : s.rxPayLen (s.cand.len ++ [v]) = n) (hbad : n < 1 ∨ 256 < n) :
    s.lenByte v = State.fail { s with cand := { s.cand with len := s.cand.len ++ [v] } } .length [] := by
  have hrefused : n < 1 ∨ (Config.bufSize : Int) < n := hbad
  simp only [State.lenByte, hlen, hn, beq_self_eq_true, if_true, if_pos hrefused]

/-- The last byte of the length field decides before any payload byte is taken (R230). -/
theorem State.dataByte_of_lastLen (h : s.fstate = .len) {lb : List Byte} (hlb : s.cand.len ++ [v] = lb)
    (hlen : lb.length = s.lenw) {n : Int} (hn : s.rxPayLen lb = n) :
    (n < 1 ∨ 256 < n → s.dataByte v = State.fail { s with cand := { s.cand with len := lb } } .length []) ∧
    (1 ≤ n → n ≤ 256 →
      s.dataByte v = { s with cand := { s.cand with len := lb, nexp := some n.toNat }, fstate := .pay }) := by
  subst hlb
  rw [State.dataByte_of_len v h]
  refine ⟨State.lenByte_of_refused v hlen hn, fun hmin hmax => ?_⟩
  have hcast : s.rxPayLen (s.cand.len ++ [v]) = (n.toNat : Int) := by omega
  exact State.lenByte_of_last hlen hcast (by omega) (by omega)

end Byte

end Sys2Proof.Machine

namespace Sys2Proof.Proofs

open Sys2Proof.Machine

/-- Settles O48, field by field; both widths of the length field end in `State.dataByte_of_lastLen`. -/
theorem candidateFieldsFollowTheProfile : Obligations.CandidateFieldsFollowTheProfile := by
  unfold Obligations.CandidateFieldsFollowTheProfile
  intro s v
  refine ⟨State.dataByte_of_addr v, fun hf hw hnil => ?lenOne, fun w hf hw hone => ?lenTwo, fun hf hw hnil => ?lenFirst,
    fun hf hopen hfull => ?overlong, fun hf hopen hroom => ?payOpen, fun n hf hto hmore => ?payMore,
    fun n hf hto hlast => ?payLast, State.dataByte_of_trl v, fun hf hmore => ?chkFirst⟩
  case lenOne =>
    have hlb : s.cand.len ++ [v] = [v] := by rw [hnil, List.nil_append]
    exact State.dataByte_of_lastLen v hf hlb hw.symm (State.rxPayLen_one hw v)
  case lenTwo =>
    have hlb : s.cand.len ++ [v] = [w, v] := by rw [hone, List.singleton_append]
    exact State.dataByte_of_lastLen v hf hlb hw.symm (State.rxPayLen_two hw w v)
  case lenFirst =>
    have hmore : s.cand.len.length + 1 < s.lenw := by rw [hnil, hw]; decide
    rw [State.dataByte_of_len v hf, State.lenByte_of_more hmore, hnil, List.nil_append]
  case overlong => rw [State.dataByte_of_pay v hf, State.payByte_of_overlong v hopen hfull]
  case payOpen => rw [State.dataByte_of_pay v hf, State.payByte_of_open hopen hroom]
  case payMore => rw [State.dataByte_of_pay v hf, State.payByte_of_more hto hmore]
  case payLast =>
    rw [State.dataByte_of_pay v hf, State.payByte_of_last hto (by rwa [List.length_append, List.length_singleton])]
  case chkFirst => rw [State.dataByte_of_chk hf, State.chkByte_of_more hmore]

end Sys2Proof.Proofs

/-! SUPPORT. The stuffed steps of FRX (44_receive.md R221, R228, R229, R263): a clean byte by its token, and an entry's gap and
flags before it. -/

namespace Sys2Proof.Machine

open Sys2Proof.Safety

/-! ## Tokens -/

section Token

variable {s : State} {b : Byte}

theorem State.stuffedByte_of_no_token (h : s.token b = none) : s.stuffedByte b = { s with escp := true } := by
  simp only [State.stuffedByte, h]

theorem State.stuffedByte_outside {t : Token} (hf : s.fstate.isCand = false) (h : s.token b = some t) :
    s.stuffedByte b = State.outside { s with escp := false } t := by
  simp only [State.stuffedByte, h, hf, Bool.false_eq_true, if_false]

theorem State.stuffedByte_in_candidate {t : Token} (hf : s.fstate.isCand = true) (h : s.token b = some t) :
    s.stuffedByte b = State.inCandidate { s with escp := false } t := by
  simp only [State.stuffedByte, h, hf, if_true]

/-- An end marker where the payload's length is not declared and no payload byte has come (R229). -/
theorem State.inCandidate_endMark_of_empty (hf : s.fstate = .pay) (hopen : s.cand.nexp = none) (hpay : s.cand.pay = []) :
    s.inCandidate .endMark = s.fail .length [] := by
  simp only [State.inCandidate, hf, hopen, hpay]
  rfl

/-- An end marker where neither a payload can end nor the marker is due (R229). -/
theorem State.inCandidate_endMark_of_misplaced (htrl : s.fstate ≠ .trl)
    (hpay : s.fstate = .pay → s.cand.nexp ≠ none) : s.inCandidate .endMark = s.fail .endMark [] := by
  have hnot : ¬(s.fstate == .pay && s.cand.nexp.isNone) = true := by
    rw [Bool.and_eq_true, beq_iff_eq, Option.isNone_iff_eq_none]
    exact fun ⟨hf, hopen⟩ => hpay hf hopen
  simp only [State.inCandidate, beq_eq_false_iff_ne.2 htrl, Bool.false_eq_true, if_false, if_neg hnot]

end Token

/-! ## The gap and the flags of an entry -/

section Flags

variable {s : State}

/-- A gap fails a candidate or drops a pending escape (R221). -/
theorem State.afterGap_eq (s : State) (e : Entry) :
    s.afterGap e =
      if e.gap = false then s
      else if s.fstate.isCand = true then s.fail .gap []
      else if s.escp = true then { s with cntDisc := s.cntDisc + 1#16, escp := false }
      else s := by
  rw [State.afterGap]
  cases e.gap <;> rfl

theorem State.stuffedErr_of_isCand (h : s.fstate.isCand = true) :
    s.stuffedErr = { s.fail .char [] with cntDisc := s.cntDisc + 1#16 } := by
  rw [State.stuffedErr, if_pos h, State.fail_framing (by decide)]
  rfl

theorem State.stuffedErr_of_escaped (hf : s.fstate.isCand = false) (h : s.escp = true) :
    s.stuffedErr = { s with cntDisc := s.cntDisc + 2#16, escp := false } := by
  have htwice : s.cntDisc + 1#16 + 1#16 = s.cntDisc + 2#16 := BitVec.add_assoc ..
  rw [State.stuffedErr, hf, if_neg Bool.false_ne_true, if_pos h, ← htwice]
  rfl

theorem State.stuffedErr_of_unescaped (hf : s.fstate.isCand = false) (h : s.escp = false) :
    s.stuffedErr = { s with cntDisc := s.cntDisc + 1#16 } := by
  have hkept : { s with escp := false } = s := congrArg (fun b => { s with escp := b }) h.symm
  have hsame : (if s.fstate.isCand then s.fail .char [] else if s.escp then s.discard 1 else s) = s := by
    rw [hf, if_neg Bool.false_ne_true, h, if_neg Bool.false_ne_true]
  rw [State.stuffedErr, hsame]
  exact congrArg (·.discard 1) hkept

/-- The step of a stuffed profile handles the entry that comes next. -/
theorem agentMove_frx_stuffed {u : State} {e : Entry} (hr : s.resetIn = false) (hen : s.en = true)
    (hfrmen : s.frmen = true) (hs : s.stuffed = true) (hhold : s.fstate ≠ .hold) (h : takesInput s e u) :
    agentMove .frx s = if e.err then (u.afterGap e).stuffedErr else (u.afterGap e).stuffedByte e.b := by
  have hu : u.stuffed = true := by
    obtain ⟨_, _, rfl⟩ := queues_of_takesInput h
    exact hs
  rw [agentMove_frx_of_takesInput hr hen hfrmen hhold h, State.handleEntry, if_pos hu, State.stuffedStep_eq]

end Flags

end Sys2Proof.Machine

namespace Sys2Proof.Proofs

open Sys2Proof.Machine Sys2Proof.Safety

/-- Settles O50, token by token: outside a candidate by R228, inside by R229. -/
theorem stuffedTokensActInAndOutsideCandidates : Obligations.StuffedTokensActInAndOutsideCandidates := by
  unfold Obligations.StuffedTokensActInAndOutsideCandidates
  intro s b
  refine ⟨State.stuffedByte_of_no_token, State.stuffedByte_outside, fun v x hf ht => ?dataOutside,
    State.stuffedByte_outside, fun v => State.stuffedByte_outside, State.stuffedByte_in_candidate,
    fun v => State.stuffedByte_in_candidate, fun v x => State.stuffedByte_in_candidate, fun hf ht => ?endDue,
    fun hf hopen hpay ht => ?endOpen, fun hf hopen hpay ht => ?endEmpty, fun hf ht => ?endMisplaced⟩
  case dataOutside =>
    exact (State.stuffedByte_outside hf ht).trans (State.discardByte_eq _ v x)
  case endDue =>
    rw [State.stuffedByte_in_candidate (by rw [hf]; rfl) ht]
    exact State.inCandidate_endMark_of_trl hf
  case endOpen =>
    rw [State.stuffedByte_in_candidate (by rw [hf]; rfl) ht]
    exact State.inCandidate_endMark_of_open hf hopen hpay
  case endEmpty =>
    rw [State.stuffedByte_in_candidate (by rw [hf]; rfl) ht]
    exact State.inCandidate_endMark_of_empty hf hopen hpay
  case endMisplaced =>
    have hplace : s.fstate.isCand = true ∧ s.fstate ≠ .trl ∧ (s.fstate = .pay → s.cand.nexp ≠ none) := by
      rcases hf with hf | hf | hf | ⟨hf, hto⟩
      · simp [hf, FState.isCand]
      · simp [hf, FState.isCand]
      · simp [hf, FState.isCand]
      · simpa [hf, FState.isCand] using hto
    obtain ⟨hcand, htrl, hpay⟩ := hplace
    rw [State.stuffedByte_in_candidate hcand ht]
    exact State.inCandidate_endMark_of_misplaced htrl hpay

/-- Settles O51: `g` is the state after the gap, in which the flags or the token are handled. -/
theorem stuffedEntryGapThenFlagsThenToken : Obligations.StuffedEntryGapThenFlagsThenToken := by
  unfold Obligations.StuffedEntryGapThenFlagsThenToken
  intro s u e hr hen hfrmen hs hhold hinput g
  have hstep := agentMove_frx_stuffed hr hen hfrmen hs hhold hinput
  have hgap : u.afterGap e = g := by
    obtain ⟨_, _, rfl⟩ := queues_of_takesInput hinput
    exact State.afterGap_eq _ e
  rw [hgap] at hstep
  refine ⟨fun ⟨hpe, hse, hbrk⟩ => ?token, fun herr => ?flagged⟩
  case token => rw [hstep, Entry.err_of_clean hpe hse hbrk, if_neg Bool.false_ne_true]
  case flagged =>
    rw [hstep, if_pos (e.err_iff.2 herr)]
    exact ⟨State.stuffedErr_of_isCand, State.stuffedErr_of_escaped, State.stuffedErr_of_unescaped⟩

end Sys2Proof.Proofs

/-! SUPPORT. The IRQ output (60_exceptions.md R265): the enabled sticky bits, one by one, and the idle transmitter (10_state.md
R33, R193). -/

namespace Sys2Proof.Machine

/-- A masked field is nonzero exactly when a bit is set in it and in the mask. -/
theorem and_ne_zero_iff_exists_bit {w : Nat} (x y : BitVec w) :
    x &&& y ≠ 0#w ↔ ∃ i, i < w ∧ x.getLsbD i = true ∧ y.getLsbD i = true := by
  constructor
  · intro hne
    by_contra hnone
    refine hne (BitVec.eq_of_getLsbD_eq fun i hi => ?_)
    rw [BitVec.getLsbD_and, BitVec.getLsbD_zero, Bool.and_eq_false_imp]
    exact fun hx => Bool.eq_false_iff.2 fun hy => hnone ⟨i, hi, hx, hy⟩
  · rintro ⟨i, _, hx, hy⟩ hzero
    have hbit : (x &&& y).getLsbD i = true := by rw [BitVec.getLsbD_and, hx, hy, Bool.and_true]
    rw [hzero, BitVec.getLsbD_zero] at hbit
    exact Bool.false_ne_true hbit

/-- A sticky bit that IEN enables, as the masked test of R265 finds it. -/
theorem State.stickyEnabled_iff (s : State) :
    s.sticky &&& s.ien.extractLsb' 0 14 ≠ 0#14 ↔
      ∃ i, i < 14 ∧ s.sticky.getLsbD i = true ∧ s.ien.getLsbD i = true := by
  have henable {i : Nat} (hi : i < 14) : (s.ien.extractLsb' 0 14).getLsbD i = s.ien.getLsbD i := by
    rw [BitVec.getLsbD_extractLsb', decide_eq_true hi, Bool.true_and, Nat.zero_add]
  rw [and_ne_zero_iff_exists_bit]
  exact exists_congr fun i => and_congr_right fun hi => by rw [henable hi]

/-- The transmitter is not busy exactly when no character is queued or shifting (R33, R193). -/
theorem State.txBusy_eq_false_iff (s : State) : s.txBusy = false ↔ s.txq = [] ∧ s.txsh = none := by
  rw [State.txBusy, Bool.or_eq_false_iff, Bool.not_eq_false', List.isEmpty_iff, Option.isSome_eq_false_iff,
    Option.isNone_iff_eq_none]

end Sys2Proof.Machine

namespace Sys2Proof.Proofs

open Sys2Proof.Machine

/-- Settles O54, source by source. -/
theorem irqIsTheEnabledSources : Obligations.IrqIsTheEnabledSources := by
  unfold Obligations.IrqIsTheEnabledSources
  intro s
  have hlevel {α : Type} (q : List α) : (!q.isEmpty) = true ↔ 0 < q.length := by
    rw [Bool.not_eq_true', List.isEmpty_eq_false_iff, List.length_pos_iff]
  have hidle : (!s.txBusy) = true ↔ s.txq = [] ∧ s.txsh = none := by
    rw [Bool.not_eq_true', State.txBusy_eq_false_iff]
  simp only [State.irq, Bool.or_eq_true, Bool.and_eq_true, bne_iff_ne, State.stickyEnabled_iff, hlevel, hidle, or_assoc]

end Sys2Proof.Proofs
